-- ==== Sys2Proof/Word.lean ====
section
/-! DEFINITION. The widths of spec/00_scope.md R12, R13 and spec/10_state.md R40 as names. -/

namespace Sys2Proof

/-- One byte: an 8-bit exchange, a payload byte, a status byte. -/
abbrev Byte := BitVec 8

/-- One 16-bit exchange. -/
abbrev Half := BitVec 16

/-- A device address as a command carries it (ADDR_W = 24, R13). -/
abbrev Addr := BitVec 24

/-- A byte count as a command carries it (LEN_W = 24, R13). -/
abbrev Len := BitVec 24

/-- A chip-select line identifier (CSID_W = 8, R13). -/
abbrev CsId := BitVec 8

/-- An SPI clock speed in Hz (CLKHZ_W = 32, R13). -/
abbrev Hertz := BitVec 32

/-- A millisecond count (TIMER_W = 32, R13). -/
abbrev Millis := BitVec 32

/-- A host command word or a response word (R120, R130). -/
abbrev Word64 := BitVec 64

end Sys2Proof
end

