-- ==== Sys2Proof/Config.lean ====
section
/-! DEFINITION. The constants of R12 and R13, the build-time parameters of R13 and R14, and the free
values: uninterpreted constants that stand for what the environment or the device leaves open. -/

namespace Sys2Proof

namespace Config

/-- PAGE_SIZE (R12). -/
abbrev pageSize : Nat := 512

/-- NUM_PAGES (R12). -/
abbrev numPages : Nat := 1024

/-- CAPACITY (R12): the device's bytes. -/
abbrev capacity : Nat := 524288

/-- OP_WREN (R12, R100). -/
abbrev opWren : Byte := 0x06#8

/-- OP_WRDI (R12, R100). -/
abbrev opWrdi : Byte := 0x04#8

/-- OP_RDSR (R12, R100). -/
abbrev opRdsr : Byte := 0x05#8

/-- OP_WRSR (R12, R100). -/
abbrev opWrsr : Byte := 0x01#8

/-- OP_READ (R12, R100). -/
abbrev opRead : Byte := 0x03#8

/-- OP_WRITE (R12, R100). -/
abbrev opWrite : Byte := 0x02#8

/-- WIP_BIT (R12): the position of the write-in-progress bit in the status byte. -/
abbrev wipBit : Nat := 0

/-- DUMMY_BYTE (R13, R113). -/
abbrev dummyByte : Byte := 0x00#8

/-- What a byte of the device array that nothing has written holds. DESIGN CHOICE, unsafe (log 10): the spec
leaves it open (93 U24); 0xFF is the convention of spec/95_test_vectors.md section 0. -/
abbrev unwrittenByte : Byte := 0xFF#8

/-- Free value (R25): the n-th undetermined MISO answer. No body: any 16-bit value. -/
opaque misoDraw : Nat → Half

/-- Free value (R26): by how many milliseconds the clock advances before the n-th sample. -/
opaque tickDraw : Nat → Nat

/-- Free value (R262, 93 U15): the byte an address of a cut-off burst's page holds after reset. -/
opaque cutByte : Nat → Nat → Byte

/-- Free value (93 U19): WEL after a WRITE transaction cut off by reset. -/
opaque cutWel : Nat → Bool

/-- Free value (93 U19): WIP after a WRITE transaction cut off by reset. -/
opaque cutWip : Nat → Bool

/-- Free value (93 U19, R92): the status reads that remain after a WRITE transaction cut off by reset; `none` is the
write cycle that never ends. -/
opaque cutCount : Nat → Option Nat

end Config

/-- The values SPI_MODE may take (R13, R144): clock idle low or idle high. -/
inductive SpiMode where
  | mode0
  | mode3
deriving DecidableEq, Repr

/-- The build-time parameters (R13). State holds one, no step changes it (R14), and a statement about every
state is a statement about every value of it (log 4). -/
structure Params where
  busyTimeoutMs : Millis
  spiMode : SpiMode
  boundsCheck : Bool
deriving DecidableEq, Repr

/-- The default column of R13. -/
def Params.default : Params :=
  { busyTimeoutMs := 10#32, spiMode := .mode0, boundsCheck := false }

end Sys2Proof
end

