-- ==== Sys2Proof/Syntax.lean ====
section
/-! DEFINITION. The instructions of spec/opcode_table.json, one constructor a row, the forms their words take,
and the assembler lines of R129. -/

namespace Sys2Proof

/-- The twelve rows of the opcode table. Operand types are exactly the widths of the encoding's fields. -/
inductive Instr where
  /-- BEGIN, format B (R141). -/
  | begin (csid : CsId) (clkhz : Hertz)
  /-- WRITE_BYTE, format A (R180). -/
  | writeByte (addr : Addr) (data : Byte)
  /-- READ_BYTE, format A (R185). -/
  | readByte (addr : Addr)
  /-- WRITE_ARRAY, format A (R200). -/
  | writeArray (addr : Addr) (len : Len)
  /-- READ_ARRAY, format A (R210). -/
  | readArray (addr : Addr) (len : Len)
  /-- WAIT_READY, format C (R160). -/
  | waitReady
  /-- WREN, the device instruction 0x06 (R101, R170). -/
  | wren
  /-- WRDI, the device instruction 0x04 (R102, R172). -/
  | wrdi
  /-- RDSR, the device instruction 0x05 (R103, R150). -/
  | rdsr
  /-- WRSR, the device instruction 0x01 (R104). -/
  | wrsr
  /-- READ, the device instruction 0x03 with its frame address (R105, R110). -/
  | read (addr : Addr)
  /-- WRITE, the device instruction 0x02 with its frame address (R107, R110). -/
  | write (addr : Addr)
deriving DecidableEq, Repr

/-- The two encoding layers of spec/30_encoding.md: a 64-bit host command word (R120), a one-byte device
instruction (R101 to R104), and a device frame of two 16-bit words (R110). -/
inductive CodeWord where
  | host (w : Word64)
  | spi8 (c : Byte)
  | spi32 (w1 w2 : Half)
deriving DecidableEq, Repr

/-- Why a word is no instruction. -/
inductive DecodeError where
  /-- OP is 0x0 or 0x7 to 0xF (R127). -/
  | reservedOp
  /-- A reserved bit of the word's format is set (R125, R127). -/
  | reservedBits
  /-- A device code whose instruction is a 32-bit frame, met as one byte, or the reverse (R110). -/
  | wrongLength
  /-- A byte that is none of the six codes of R100 (R108). -/
  | unknownCode
deriving DecidableEq, Repr

/-- One line of the assembler syntax (R129), with its numbers as written. -/
inductive AsmLine where
  | begin (csid hz : Nat)
  | wrb (addr data : Nat)
  | rdb (addr : Nat)
  | wra (addr len : Nat)
  | rda (addr len : Nat)
  | wait
  /-- The pseudo-instruction `wra.d`, which also gives the payload bytes. -/
  | wrad (addr : Nat) (bytes : List Nat)
deriving DecidableEq, Repr

end Sys2Proof
end

