-- ==== Sys2Proof/WellFormed.lean ====
section
/-! DEFINITION. What a well-formed instruction, parameter record and assembler line is. -/

namespace Sys2Proof

/-- Every term of Instr is well formed: its operand types are exactly the fields of R120 to R124 and R110, and
every value of every legal field has a meaning (R234). Addresses at or above CAPACITY are legal (R73), and a
BEGIN with CLKHZ = 0 is legal by decode and refused later (R142). -/
def Instr.wf : Instr → Bool
  | .begin _ _ => true
  | .writeByte _ _ => true
  | .readByte _ => true
  | .writeArray _ _ => true
  | .readArray _ _ => true
  | .waitReady => true
  | .wren => true
  | .wrdi => true
  | .rdsr => true
  | .wrsr => true
  | .read _ => true
  | .write _ => true

/-- BUSY_TIMEOUT_MS is 1 to 2^32 - 1 (R13, R155). -/
def Params.wf (p : Params) : Bool :=
  p.busyTimeoutMs != 0#32

/-- The numbers of an assembler line fit their fields (R122, R123, R129). -/
def AsmLine.wf : AsmLine → Bool
  | .begin csid hz => decide (csid < 2 ^ 8) && decide (hz < 2 ^ 32)
  | .wrb addr data => decide (addr < 2 ^ 24) && decide (data < 2 ^ 8)
  | .rdb addr => decide (addr < 2 ^ 24)
  | .wra addr len => decide (addr < 2 ^ 24) && decide (len < 2 ^ 24)
  | .rda addr len => decide (addr < 2 ^ 24) && decide (len < 2 ^ 24)
  | .wait => true
  | .wrad addr bytes =>
    decide (addr < 2 ^ 24) && decide (bytes.length < 2 ^ 24) && bytes.all (fun b => decide (b < 2 ^ 8))

end Sys2Proof
end

