-- ==== Sys2Proof/Decode.lean ====
section
/-! DEFINITION. The decoder of R125 and of the device codes (R100, R110), total on every word, and the encoder
written from the same tables. -/

namespace Sys2Proof

/-- `c[hi:lo]` of R16 for the OP field `c[3:0]` (R120). -/
def fieldOp (c : Word64) : BitVec 4 := c.extractLsb' 0 4

/-- `c[31:8]`, ADDR (R122). -/
def fieldAddr (c : Word64) : Addr := c.extractLsb' 8 24

/-- `c[55:32]`, ARG or LEN (R120, R122). -/
def fieldArg (c : Word64) : Len := c.extractLsb' 32 24

/-- `c[39:32]`, DATA (R122). -/
def fieldData (c : Word64) : Byte := c.extractLsb' 32 8

/-- `c[15:8]`, CSID (R123). -/
def fieldCsid (c : Word64) : CsId := c.extractLsb' 8 8

/-- `c[63:32]`, CLKHZ (R123). -/
def fieldClkhz (c : Word64) : Hertz := c.extractLsb' 32 32

/-- `c[7:4]` is zero: reserved in every format (R120). -/
def lowReservedClear (c : Word64) : Bool := c.extractLsb' 4 4 == 0#4

/-- `c[63:56]` is zero: reserved in format A (R120). -/
def highReservedClear (c : Word64) : Bool := c.extractLsb' 56 8 == 0#8

/-- R125: the decode table of the host command word. -/
def decodeHost (c : Word64) : Except DecodeError Instr :=
  if fieldOp c = 0x1#4 then
    if lowReservedClear c && c.extractLsb' 16 16 == 0#16
    then .ok (.begin (fieldCsid c) (fieldClkhz c)) else .error .reservedBits
  else if fieldOp c = 0x2#4 then
    if lowReservedClear c && c.extractLsb' 40 16 == 0#16 && highReservedClear c
    then .ok (.writeByte (fieldAddr c) (fieldData c)) else .error .reservedBits
  else if fieldOp c = 0x3#4 then
    if lowReservedClear c && c.extractLsb' 32 24 == 0#24 && highReservedClear c
    then .ok (.readByte (fieldAddr c)) else .error .reservedBits
  else if fieldOp c = 0x4#4 then
    if lowReservedClear c && highReservedClear c
    then .ok (.writeArray (fieldAddr c) (fieldArg c)) else .error .reservedBits
  else if fieldOp c = 0x5#4 then
    if lowReservedClear c && highReservedClear c
    then .ok (.readArray (fieldAddr c) (fieldArg c)) else .error .reservedBits
  else if fieldOp c = 0x6#4 then
    if c.extractLsb' 4 60 == 0#60 then .ok .waitReady else .error .reservedBits
  else .error .reservedOp

/-- R100: the device instructions that are one byte. 0x02 and 0x03 open a frame of 32 bits (R110). -/
def decodeSpi8 (c : Byte) : Except DecodeError Instr :=
  if c = Config.opWren then .ok .wren
  else if c = Config.opWrdi then .ok .wrdi
  else if c = Config.opRdsr then .ok .rdsr
  else if c = Config.opWrsr then .ok .wrsr
  else if c = Config.opRead || c = Config.opWrite then .error .wrongLength
  else .error .unknownCode

/-- The high byte of a 16-bit exchange, first on the wire (R76). -/
def highByte (w : Half) : Byte := w.extractLsb' 8 8

/-- The low byte of a 16-bit exchange, second on the wire (R76). -/
def lowByte (w : Half) : Byte := w.extractLsb' 0 8

/-- R110, R111: the instruction a frame `w1`, `w2` carries, with its address field `w1[7:0] ‖ w2`. -/
def decodeSpi32 (w1 w2 : Half) : Except DecodeError Instr :=
  if highByte w1 = Config.opRead then .ok (.read (lowByte w1 ++ w2))
  else if highByte w1 = Config.opWrite then .ok (.write (lowByte w1 ++ w2))
  else if highByte w1 = Config.opWren || highByte w1 = Config.opWrdi ||
    highByte w1 = Config.opRdsr || highByte w1 = Config.opWrsr then .error .wrongLength
  else .error .unknownCode

/-- The decoder of both layers. -/
def decode : CodeWord → Except DecodeError Instr
  | .host w => decodeHost w
  | .spi8 c => decodeSpi8 c
  | .spi32 w1 w2 => decodeSpi32 w1 w2

/-- A format A word (R120): `RSV ‖ ARG ‖ ADDR ‖ RSV ‖ OP`. -/
def formatA (op : BitVec 4) (addr : Addr) (arg : Len) : Word64 :=
  0#8 ++ arg ++ addr ++ 0#4 ++ op

/-- A format B word (R120): `CLKHZ ‖ RSV ‖ CSID ‖ RSV ‖ OP`. -/
def formatB (op : BitVec 4) (csid : CsId) (clkhz : Hertz) : Word64 :=
  clkhz ++ 0#16 ++ csid ++ 0#4 ++ op

/-- A format C word (R120): `RSV ‖ OP`. -/
def formatC (op : BitVec 4) : Word64 :=
  0#60 ++ op

/-- R110: the first word of FRAME(cmd, a), `cmd ‖ a[23:16]`. -/
def frameW1 (cmd : Byte) (a : Addr) : Half :=
  cmd ++ a.extractLsb' 16 8

/-- R110: the second word of FRAME(cmd, a), `a[15:0]`. -/
def frameW2 (a : Addr) : Half :=
  a.extractLsb' 0 16

/-- The encoder (R100, R110, R120, R121). -/
def encode : Instr → CodeWord
  | .begin csid clkhz => .host (formatB 0x1#4 csid clkhz)
  | .writeByte addr data => .host (formatA 0x2#4 addr (0#16 ++ data))
  | .readByte addr => .host (formatA 0x3#4 addr 0#24)
  | .writeArray addr len => .host (formatA 0x4#4 addr len)
  | .readArray addr len => .host (formatA 0x5#4 addr len)
  | .waitReady => .host (formatC 0x6#4)
  | .wren => .spi8 Config.opWren
  | .wrdi => .spi8 Config.opWrdi
  | .rdsr => .spi8 Config.opRdsr
  | .wrsr => .spi8 Config.opWrsr
  | .read addr => .spi32 (frameW1 Config.opRead addr) (frameW2 addr)
  | .write addr => .spi32 (frameW1 Config.opWrite addr) (frameW2 addr)

/-- The two wire bytes of a 16-bit exchange, in wire order (R76, R77). -/
def wireBytes16 (w : Half) : List Byte :=
  [highByte w, lowByte w]

/-- The bytes of a device instruction in wire order (R77, R78). A host command is not on the SPI wire. -/
def wireBytes : CodeWord → List Byte
  | .host _ => []
  | .spi8 c => [c]
  | .spi32 w1 w2 => wireBytes16 w1 ++ wireBytes16 w2

/-- One row of R126 and R100: the word's width in bits, its match and its mask. -/
structure OpcodeRow where
  bits : Nat
  matchBits : Nat
  mask : Nat
deriving DecidableEq, Repr

/-- The rows of R126 and of the device codes, by instruction. -/
def opcodeRow : Instr → OpcodeRow
  | .begin _ _ => ⟨64, 0x0000000000000001, 0x00000000FFFF00FF⟩
  | .writeByte _ _ => ⟨64, 0x0000000000000002, 0xFFFFFF00000000FF⟩
  | .readByte _ => ⟨64, 0x0000000000000003, 0xFFFFFFFF000000FF⟩
  | .writeArray _ _ => ⟨64, 0x0000000000000004, 0xFF000000000000FF⟩
  | .readArray _ _ => ⟨64, 0x0000000000000005, 0xFF000000000000FF⟩
  | .waitReady => ⟨64, 0x0000000000000006, 0xFFFFFFFFFFFFFFFF⟩
  | .wren => ⟨8, 0x06, 0xFF⟩
  | .wrdi => ⟨8, 0x04, 0xFF⟩
  | .rdsr => ⟨8, 0x05, 0xFF⟩
  | .wrsr => ⟨8, 0x01, 0xFF⟩
  | .read _ => ⟨32, 0x03000000, 0xFF000000⟩
  | .write _ => ⟨32, 0x02000000, 0xFF000000⟩

/-- A code word as one number with the width the opcode table gives it: a frame is `w1 ‖ w2`. -/
def CodeWord.bitsAndValue : CodeWord → Nat × Nat
  | .host w => (64, w.toNat)
  | .spi8 c => (8, c.toNat)
  | .spi32 w1 w2 => (32, (w1 ++ w2).toNat)

/-- A word matches a row (R125: `(c & mask) == match`). -/
def OpcodeRow.covers (r : OpcodeRow) (c : CodeWord) : Bool :=
  r.bits == c.bitsAndValue.1 && (c.bitsAndValue.2 &&& r.mask) == r.matchBits

/-- The six host rows of R126. -/
def hostRows : List OpcodeRow :=
  [ ⟨64, 0x0000000000000001, 0x00000000FFFF00FF⟩
  , ⟨64, 0x0000000000000002, 0xFFFFFF00000000FF⟩
  , ⟨64, 0x0000000000000003, 0xFFFFFFFF000000FF⟩
  , ⟨64, 0x0000000000000004, 0xFF000000000000FF⟩
  , ⟨64, 0x0000000000000005, 0xFF000000000000FF⟩
  , ⟨64, 0x0000000000000006, 0xFFFFFFFFFFFFFFFF⟩ ]

/-- R125: `(c & mask) == match` for some host row. -/
def hostWordLegal (c : Word64) : Bool :=
  hostRows.any (fun r => r.covers (.host c))

/-- The code word that a row's `nbits` and bits `w` stand for. The two layers are told apart by width (log 21):
one byte is a device instruction; up to 32 bits with 0x02 or 0x03 in bits 31:24 is a device frame (R110); anything
else is a host command word whose higher bits are 0. -/
def tableWord (nbits w : Nat) : CodeWord :=
  if nbits ≤ 8 then .spi8 (BitVec.ofNat 8 w)
  else if nbits ≤ 32 && (w / 2 ^ 24 == 2 || w / 2 ^ 24 == 3) then
    .spi32 (BitVec.ofNat 16 (w / 2 ^ 16)) (BitVec.ofNat 16 w)
  else .host (BitVec.ofNat 64 w)

/-- What the decoder reads from an instruction whose bits are `w`, as spec/opcode_table.json numbers them. -/
def decodeTableWord (nbits w : Nat) : Option Instr :=
  match decode (tableWord nbits w) with
  | .ok i => some i
  | .error _ => none

end Sys2Proof
end

