-- ==== Sys2Proof/Machine/State.lean ====
section
/-! DEFINITION. The machine's state: the registers of R40, the sequencer phase of R50, what the environment
presents on the input ports of R30, the device of R85, the parameters of R13 and the event history of R24. -/

namespace Sys2Proof.Machine

/-- The sequencer phases of R50, then four phases of the model's own that no host operation enters. -/
inductive Phase where
  | idle
  | accept
  | bCscfg
  | bCsh
  | bSpicfg
  | pT0
  | pCsl
  | pCmd
  | pSr
  | pTime
  | pCsh
  | eCsl
  | eCmd
  | eCsh
  | fCsl
  | fW1
  | fW2
  | dPop
  | dTx
  | dRx
  | dPush
  | fCsh
  | aNext
  | resp
  /-- WRDI_SEQ's three steps (R172); not in R50, never reached from reset. DESIGN CHOICE (log 12). -/
  | wrdiCsl
  | wrdiCmd
  | wrdiCsh
  /-- Where a WRSR would stand; not in R50, never reached from reset. DESIGN CHOICE (log 13). -/
  | wrsr
deriving DecidableEq, Repr

/-- The result codes of R131. -/
inductive Result where
  | ok
  | busy
  | outOfRange
  | rejIllegal
  | rejNotInit
  | rejAlreadyInit
deriving DecidableEq, Repr

/-- The event alphabet of R24. A chip-select level is true for 1 (idle) and false for 0 (asserted). -/
inductive Event where
  | csCfg (id : CsId)
  | cs (level : Bool)
  | spiCfg (hz : Hertz) (mode : SpiMode)
  | xfer8 (mosi miso : Byte)
  | xfer16 (mosi miso : Half)
  | time (t : Millis)
  | pop (b : Byte)
  | push (b : Byte)
  | resp (word : Word64)
deriving DecidableEq, Repr

/-- The device's bytes: (address, byte) pairs, addresses strictly rising, no pair whose byte is what an unlisted
address reads as (Config.unwrittenByte). Machine/Memory.lean has its operations and its canonical form. -/
abbrev Memory := List Host.Cell

/-- How the device answers: any value (the oracle of R25), or by R85 to R92 (the reference device). -/
inductive DeviceMode where
  | oracle
  | reference
deriving DecidableEq, Repr

/-- A count of status reads (K and W of R85, R90); `never` is the W = ∞ of R92. -/
inductive BusyCount where
  | reads (n : Nat)
  | never
deriving DecidableEq, Repr

/-- The device faults the reference device records (R90, R91). -/
inductive DeviceFault where
  /-- A WRITE whose burst names an address at or above CAPACITY (R90, U1). -/
  | beyondCapacity
  /-- A WRITE whose burst leaves the page of its address (R90, U20). -/
  | pageCrossed
  /-- A WRITE while WIP = 1 (R90, U21). -/
  | writeDuringCycle
  /-- WRSR or an instruction byte outside R100 (R91, U22). -/
  | unknownInstruction (code : Byte)
deriving DecidableEq, Repr

/-- The device (R85) and its view of the open transaction (R86). -/
structure Device where
  mode : DeviceMode
  /-- DEV. -/
  mem : Memory
  wel : Bool
  wip : Bool
  /-- PEND: the pairs of the write cycle in flight. -/
  pend : List Host.Cell
  k : BusyCount
  /-- W: the busy count the next write cycle takes (R90). -/
  w : BusyCount
  /-- A transaction is open: Cs(0) seen, Cs(1) not yet (R86). -/
  sel : Bool
  /-- How many bytes of the open transaction the device has seen. -/
  pos : Nat
  /-- Byte 0 of the open transaction. -/
  ins : Byte
  /-- The address bytes of the open transaction seen so far, most significant first (R78). -/
  addr : Addr
  /-- The data bytes of an open WRITE, in order. -/
  data : List Byte
  /-- The device faults recorded, newest first. -/
  faults : List DeviceFault
deriving DecidableEq, Repr

/-- What the environment presents: the input ports of R30, and the transport's session (R36). -/
structure Env where
  /-- The command words the host will present, in order (`cmd_valid`, `cmd_word`; R28, R31). -/
  cmds : List Word64
  /-- The payload bytes the host will offer, in order (`pin_valid`, `pin_data`; R27, R33). -/
  pin : List Byte
  /-- `pout_ready` (R33). -/
  poutReady : Bool
  /-- Whether the transport acknowledges an exchange (`spi_ack`; R35, R53). -/
  spiAck : Bool
  /-- Scripted answers of the device oracle, used before the free draws (`spi_miso`; R25). -/
  miso : List Half
  /-- `now_ms` as last sampled (R37). -/
  now : Millis
  /-- Scripted advances of the clock before each sample, used before the free draws (R26). -/
  ticks : List Nat
  /-- For how many coming steps `rst` is 1 (R260). -/
  rst : Nat
  /-- The transport's session: absent until the first SpiCfg event (R36, R61). -/
  session : Option (Hertz × SpiMode)
deriving DecidableEq, Repr

/-- Everything the machine holds. The register fields carry the names of R40 in camel case. -/
structure State where
  init : Bool
  csId : CsId
  clkHz : Hertz
  cw : Word64
  cur : BitVec 25
  rem : BitVec 24
  nb : BitVec 10
  cnt : BitVec 24
  sr : Byte
  t0 : Millis
  el : Millis
  rdata : Byte
  resp : Word64
  respValid : Bool
  /-- `cs_n`: true is the idle level 1 (R34). -/
  csN : Bool
  csOe : Bool
  seq : Phase
  /-- The holding register of the data phases (R51). -/
  b : Byte
  /-- The outcome on its way to RESP (implied by R50, R240; log 8). -/
  result : Result
  /-- The build-time parameters, which no step changes (R14). -/
  params : Params
  env : Env
  dev : Device
  /-- The events so far, newest first (R24). -/
  history : List Event
  /-- The model's own count of free draws taken (log 5). -/
  draws : Nat
deriving DecidableEq, Repr

/-- Why a step has no next state. None is an error of the hardware. -/
inductive Fault where
  /-- Raised by step in IDLE when the host presents no command: the engine waits (R28, R50), and a run that ends
  so is finished. Safe: the model stops where the hardware waits. -/
  | noCommand
  /-- Raised by WRITE_ARRAY in D_POP when the host offers no byte: the engine waits, stuck if it never comes
  (R27, R270, U17). Safe. -/
  | noPayloadByte
  /-- Raised by READ_ARRAY in D_PUSH when the host does not take the byte: the engine waits, stuck if it never
  does (R27, R271, U17). Safe. -/
  | payloadNotTaken
  /-- Raised by every SPI exchange when the transport does not acknowledge: stuck (R53, R272, U18). Safe. -/
  | transportSilent
  /-- Raised by a meaning at a phase that is none of its operation's (R51 "n/a"). No run from reset reaches it.
  DESIGN CHOICE, safe (log 20). -/
  | offSequence
deriving DecidableEq, Repr

/-- Why an instruction has no meaning. -/
inductive Refusal where
  /-- Raised by an arm of exec that has no meaning yet; none at present. Safe. -/
  | notModelled (mnemonic : String)
  /-- Raised by WRSR: "A model gives WRSR no semantics" (R104). Safe: no operation sends it (R108). -/
  | wrsrNoSemantics
deriving DecidableEq, Repr

/-- The three outcomes of a step of this machine. -/
abbrev Out := Host.Outcome State Fault Refusal

/-- The device before anything is known of it: the initial values of R85, answering as the oracle of R25
(DESIGN CHOICE, log 11). -/
def Device.initial : Device :=
  { mode := .oracle, mem := [], wel := false, wip := false, pend := [], k := .reads 0, w := .reads 1,
    sel := false, pos := 0, ins := 0#8, addr := 0#24, data := [], faults := [] }

/-- The environment before anything is presented (DESIGN CHOICE, log 11): no command, no payload byte, a host
that takes every byte, a transport that answers, no session (R61). -/
def Env.initial : Env :=
  { cmds := [], pin := [], poutReady := true, spiAck := true, miso := [], now := 0#32, ticks := [],
    rst := 0, session := none }

/-- The machine right after reset: R60, the defaults of R13, and the initial environment and device. -/
def State.reset : State :=
  { init := false, csId := 0#8, clkHz := 0#32, cw := 0#64, cur := 0#25, rem := 0#24, nb := 0#10,
    cnt := 0#24, sr := 0#8, t0 := 0#32, el := 0#32, rdata := 0#8, resp := 0#64, respValid := false,
    csN := true, csOe := false, seq := .idle, b := 0#8, result := .ok, params := Params.default,
    env := Env.initial, dev := Device.initial, history := [], draws := 0 }

end Sys2Proof.Machine
end

