-- ==== Sys2Proof/Machine/Memory.lean ====
section
/-! DEFINITION. Memory operations: one byte, then n bytes at ascending addresses (R18, R85). -/

namespace Sys2Proof.Machine

/-- The byte at an address; an address not listed holds Config.unwrittenByte (log 10). -/
def Memory.read (m : Memory) (a : Nat) : Byte :=
  match m with
  | [] => Config.unwrittenByte
  | (k, v) :: rest => if k = a then v else Memory.read rest a

/-- The pair to put at an address, or none where the byte is what an unlisted address reads as. -/
def Memory.cell (a : Nat) (v : Byte) (rest : Memory) : Memory :=
  if v = Config.unwrittenByte then rest else (a, v) :: rest

/-- Write one byte and keep the canonical form. -/
def Memory.write (m : Memory) (a : Nat) (v : Byte) : Memory :=
  match m with
  | [] => Memory.cell a v []
  | (k, w) :: rest =>
    if a < k then Memory.cell a v ((k, w) :: rest)
    else if a = k then Memory.cell a v rest
    else (k, w) :: Memory.write rest a v

/-- Every listed address is above `lo`, addresses strictly rise, and no listed byte is the unwritten one. -/
def Memory.wfAbove (lo : Option Nat) (m : Memory) : Bool :=
  match m with
  | [] => true
  | (k, v) :: rest =>
    (match lo with
      | none => true
      | some l => decide (l < k)) && v != Config.unwrittenByte && Memory.wfAbove (some k) rest

/-- The canonical form. -/
def Memory.wf (m : Memory) : Bool :=
  Memory.wfAbove none m

/-- MemRead(addr, n): n bytes at ascending addresses (R18, R85). -/
def Memory.readBytes (m : Memory) (a : Nat) : Nat → List Byte
  | 0 => []
  | n + 1 => Memory.read m a :: Memory.readBytes m (a + 1) n

/-- Write a list of (address, byte) pairs in order (R87: "MemWrite of every pair of PEND"). -/
def Memory.writeCells (m : Memory) : List Host.Cell → Memory
  | [] => m
  | (a, v) :: rest => Memory.writeCells (Memory.write m a v) rest

/-- Bytes paired with ascending addresses from `a` (R79, R90). -/
def cellsFrom (a : Nat) : List Byte → List Host.Cell
  | [] => []
  | v :: rest => (a, v) :: cellsFrom (a + 1) rest

/-- MemWrite(addr, n, v): bytes at ascending addresses (R18, R85). -/
def Memory.writeBytes (m : Memory) (a : Nat) (vs : List Byte) : Memory :=
  Memory.writeCells m (cellsFrom a vs)

end Sys2Proof.Machine
end

