-- ==== Sys2Proof/Machine/Operands.lean ====
section
/-! DEFINITION. The views of the command word (R43), page arithmetic (R71), the bounds check (R236) and the burst
length (R203). -/

namespace Sys2Proof.Machine

/-- The view `op` = `cw[3:0]` (R43). -/
def State.op (s : State) : BitVec 4 := fieldOp s.cw

/-- The view `addr` = `cw[31:8]` (R43). -/
def State.addr (s : State) : Addr := fieldAddr s.cw

/-- The view `arg` = `cw[55:32]` (R43). -/
def State.arg (s : State) : Len := fieldArg s.cw

/-- page(a) = a / PAGE_SIZE (R71). -/
def page (a : Nat) : Nat := a / Config.pageSize

/-- offset(a) = a % PAGE_SIZE (R71). -/
def offset (a : Nat) : Nat := a % Config.pageSize

/-- `cur[23:0]`, the address field of a WRITE_ARRAY frame (R200, R204). -/
def State.curAddr (s : State) : Addr := s.cur.extractLsb' 0 24

/-- R203 step 3: `min(512 - cur[8:0], rem)`. -/
def burstLength (cur : BitVec 25) (rem : Len) : BitVec 10 :=
  BitVec.ofNat 10 (min (Config.pageSize - offset cur.toNat) rem.toNat)

/-- R236 for WRITE_BYTE and READ_BYTE. -/
def byteOutOfBounds (addr : Addr) : Bool :=
  decide (Config.capacity ≤ addr.toNat)

/-- R236 for READ_ARRAY; the sum is exact. -/
def readArrayOutOfBounds (addr : Addr) (len : Len) : Bool :=
  decide (Config.capacity ≤ addr.toNat) || decide (Config.capacity < addr.toNat + len.toNat)

end Sys2Proof.Machine
end

