-- ==== Sys2Proof/Machine/Device.lean ====
section
/-! DEFINITION. The reference device of R85 to R92, byte by byte. -/

namespace Sys2Proof.Machine

/-- A device's answer to one byte: a byte, or a draw (R25, R89). -/
inductive Answer where
  | byte (b : Byte)
  | free
deriving DecidableEq, Repr

/-- The count after one status read answered (R87). -/
def BusyCount.dec : BusyCount → BusyCount
  | .reads n => .reads (n - 1)
  | .never => .never

/-- A count of status reads, or none for the endless W = ∞ of R92. -/
def BusyCount.ofOption : Option Nat → BusyCount
  | some n => .reads n
  | none => .never

/-- No transaction open. -/
def Device.closed (d : Device) : Device :=
  { d with sel := false, pos := 0, ins := 0#8, addr := 0#24, data := [] }

/-- Record a device fault; the device's whole later state is then a draw, so it answers as the oracle (R90, U1,
log 18). -/
def Device.recordFault (f : DeviceFault) (d : Device) : Device :=
  { d.closed with mode := .oracle, faults := f :: d.faults }

/-- Cs(0): a transaction opens (R86). -/
def Device.select (d : Device) : Device :=
  if d.mode = .reference then { d.closed with sel := true } else d

/-- R87: `zext_8(WEL ‖ WIP)`. That WEL is bit 1 is PRESUMED (93 K1, log 19). -/
def Device.statusByte (d : Device) : Byte :=
  0#6 ++ BitVec.ofBool d.wel ++ BitVec.ofBool d.wip

/-- R87: the write cycle ends: every pair of PEND is written, WIP and WEL are cleared. -/
def Device.complete (d : Device) : Device :=
  { d with mem := d.mem.writeCells d.pend, wip := false, wel := false, pend := [] }

/-- R87: what one status read does; while WIP = 1 it decrements K and may complete the write cycle. -/
def Device.countRead (d : Device) : Device :=
  if d.wip then
    if d.k.dec = .reads 0 then { d with k := d.k.dec }.complete else { d with k := d.k.dec }
  else d

/-- R89: the answer at data position `k` of a READ. -/
def Device.readAnswer (d : Device) (k : Nat) : Answer :=
  if d.wip then .free
  else if d.addr.toNat + k < Config.capacity then .byte (d.mem.read (d.addr.toNat + k))
  else .free

/-- The codes R86 to R90 give a meaning. -/
def deviceKnows (c : Byte) : Bool :=
  c == Config.opWren || c == Config.opWrdi || c == Config.opRdsr || c == Config.opRead || c == Config.opWrite

/-- R86 to R91: one byte of an open transaction, at position `pos`. A position that carries no data answers 0x00. -/
def Device.receive (d : Device) (mosi : Byte) : Answer × Device :=
  if d.pos = 0 then
    if deviceKnows mosi then (.byte 0x00#8, { d with ins := mosi, pos := 1 })
    else (.free, d.recordFault (.unknownInstruction mosi))
  else if d.ins = Config.opRdsr then
    (.byte d.statusByte, { d.countRead with pos := d.pos + 1 })
  else if (d.ins = Config.opRead ∨ d.ins = Config.opWrite) ∧ d.pos ≤ 3 then
    (.byte 0x00#8, { d with addr := d.addr.extractLsb' 0 16 ++ mosi, pos := d.pos + 1 })
  else if d.ins = Config.opRead then
    (d.readAnswer (d.pos - 4), { d with pos := d.pos + 1 })
  else if d.ins = Config.opWrite then
    (.byte 0x00#8, { d with data := d.data ++ [mosi], pos := d.pos + 1 })
  else (.byte 0x00#8, { d with pos := d.pos + 1 })

/-- R90: the end of a WRITE transaction with address `addr` and bytes `data`. While WIP = 1 it is a device fault
however many bytes it carries (U21). The order of the other tests is DEDUCED (log 17); that a WRITE with WEL = 0 is
ignored is PRESUMED (93 K2, log 19). -/
def Device.endWrite (d : Device) : Device :=
  if d.wip then d.recordFault .writeDuringCycle
  else if d.data.isEmpty then d.closed
  else if !d.wel then d.closed
  else if Config.capacity < d.addr.toNat + d.data.length then d.recordFault .beyondCapacity
  else if page d.addr.toNat ≠ page (d.addr.toNat + d.data.length - 1) then d.recordFault .pageCrossed
  else { d.closed with pend := cellsFrom d.addr.toNat d.data, wip := true, k := d.w }

/-- Cs(1): the open transaction ends and takes effect (R86, R88, R90). -/
def Device.deselect (d : Device) : Device :=
  if ¬(d.mode = .reference ∧ d.sel) then d
  else if d.ins = Config.opWren ∧ d.pos = 1 then { d.closed with wel := true }
  else if d.ins = Config.opWrdi ∧ d.pos = 1 then { d.closed with wel := false }
  else if d.ins = Config.opWrite then d.endWrite
  else d.closed

/-- The bytes of the pages a burst of `n` bytes from `a` names, as draws numbered `draw` (R262, U15). -/
def cutCells (draw a n : Nat) : List Host.Cell :=
  (List.range' (page a * Config.pageSize) ((page (a + n - 1) - page a + 1) * Config.pageSize)).map
    (fun x => (x, Config.cutByte draw x))

/-- Engine reset with a transaction open (R262, U15, U19; log 16). A WRITE whose address the device has: the
named pages and the status bits are draws. Anything else ends as at Cs(1). -/
def Device.cutOff (draw : Nat) (d : Device) : Device :=
  if d.mode = .reference ∧ d.sel ∧ d.ins = Config.opWrite ∧ 4 ≤ d.pos then
    if d.wip ∨ Config.capacity < d.addr.toNat + max d.data.length 1 then { d.closed with mode := .oracle }
    else
      { d.closed with
        mem := d.mem.writeCells (cutCells draw d.addr.toNat (max d.data.length 1))
        wel := Config.cutWel draw
        wip := Config.cutWip draw
        pend := []
        k := BusyCount.ofOption (Config.cutCount draw) }
  else d.deselect

end Sys2Proof.Machine
end

