-- ==== Sys2Proof/Machine/Flags.lean ====
section
/-! DEFINITION. The flag-like state of R45: the WIP test, the poll's condition, the result codes and the
response word. -/

namespace Sys2Proof.Machine

/-- Bit 0 of a status byte, WIP (R106). -/
def wipSet (sr : Byte) : Bool := sr.getLsbD Config.wipBit

/-- R152: the poll continues exactly when WIP is set and the elapsed time is below the timeout. -/
def pollContinues (p : Params) (sr : Byte) (el : Millis) : Bool :=
  wipSet sr && decide (el.toNat < p.busyTimeoutMs.toNat)

/-- The RESULT code of R131. -/
def Result.code : Result → BitVec 4
  | .ok => 0x0#4
  | .busy => 0x1#4
  | .outOfRange => 0x2#4
  | .rejIllegal => 0x8#4
  | .rejNotInit => 0x9#4
  | .rejAlreadyInit => 0xA#4

/-- RDATA's source (R132, R240, R241): `rdata` on OK, 0x00 otherwise. -/
def rdataOrZero (r : Result) (rdata : Byte) : Byte :=
  if r = .ok then rdata else 0x00#8

/-- R130: `resp = zext_64(sr ‖ cnt ‖ rdata ‖ 0b0000 ‖ result)`. -/
def respWord (sr : Byte) (cnt : BitVec 24) (rdata : Byte) (r : Result) : Word64 :=
  0#16 ++ sr ++ cnt ++ rdata ++ 0#4 ++ r.code

/-- The field RESULT, `resp[3:0]` (R130). -/
def respResult (w : Word64) : BitVec 4 := w.extractLsb' 0 4

/-- The field RDATA, `resp[15:8]` (R130). -/
def respRdata (w : Word64) : Byte := w.extractLsb' 8 8

/-- The field BYTES_DONE, `resp[39:16]` (R130). -/
def respBytesDone (w : Word64) : BitVec 24 := w.extractLsb' 16 24

/-- The field LAST_SR, `resp[47:40]` (R130). -/
def respLastSr (w : Word64) : Byte := w.extractLsb' 40 8

/-- The reserved bits `resp[7:4]` and `resp[63:48]` are 0 (R135). -/
def respReservedClear (w : Word64) : Bool :=
  w.extractLsb' 4 4 == 0#4 && w.extractLsb' 48 16 == 0#16

end Sys2Proof.Machine
end

