-- ==== Sys2Proof/Machine/Ops.lean ====
section
/-! DEFINITION. The primitives of R20, acceptance (R43, R52), the end of an operation (R240, R241) and reset
(R260 to R263). -/

namespace Sys2Proof.Machine

/-- Append one event to the history (R24). -/
def State.emit (e : Event) (s : State) : State :=
  { s with history := e :: s.history }

/-- `seq <- p` (R19). -/
def State.goto (p : Phase) (s : State) : State :=
  { s with seq := p }

/-- CS_ASSERT() (R20): `cs_n <- 0`. -/
def csAssert (s : State) : State :=
  { s with csN := false, dev := s.dev.select, history := .cs false :: s.history }

/-- CS_DEASSERT() (R20): `cs_n <- 1`. -/
def csDeassert (s : State) : State :=
  { s with csN := true, dev := s.dev.deselect, history := .cs true :: s.history }

/-- CS_CONFIG(id) (R20, R141): `cs_line <- id`, `cs_oe <- 1`. -/
def csConfig (id : CsId) (s : State) : State :=
  { s with csId := id, csOe := true, history := .csCfg id :: s.history }

/-- SPI_CONFIG(hz, mode) (R20, R36): the transport establishes the session. -/
def spiConfig (hz : Hertz) (s : State) : State :=
  { s with
    env := { s.env with session := some (hz, s.params.spiMode) }
    history := .spiCfg hz s.params.spiMode :: s.history }

/-- One draw of the device oracle (R25): the next scripted answer, or a free value (log 5). -/
def drawMiso (s : State) : Half × State :=
  match s.env.miso with
  | m :: rest => (m, { s with env := { s.env with miso := rest } })
  | [] => (Config.misoDraw s.draws, { s with draws := s.draws + 1 })

/-- The device's answer to one byte: the reference device while it is selected, otherwise a draw. -/
def deviceByte (mosi : Byte) (s : State) : Byte × State :=
  if s.dev.mode = .reference ∧ s.dev.sel then
    match s.dev.receive mosi with
    | (.byte b, d) => (b, { s with dev := d })
    | (.free, d) => ((lowByte (drawMiso { s with dev := d }).1), (drawMiso { s with dev := d }).2)
  else (lowByte (drawMiso s).1, (drawMiso s).2)

/-- The device's answer to one 16-bit word: for the reference device the two bytes in wire order (R77, R86). -/
def deviceHalf (mosi : Half) (s : State) : Half × State :=
  if s.dev.mode = .reference then
    let h := deviceByte (highByte mosi) s
    let l := deviceByte (lowByte mosi) h.2
    (h.1 ++ l.1, l.2)
  else drawMiso s

/-- X8(v) (R20, R35): one exchange, then go on with the byte received. No step without an acknowledge (R53). -/
def x8 (v : Byte) (s : State) (k : Byte → State → State) : Out :=
  if s.env.spiAck then
    .next (k (deviceByte v s).1 ((deviceByte v s).2.emit (.xfer8 v (deviceByte v s).1)))
  else .fault .transportSilent

/-- X16(w) (R20, R35). -/
def x16 (w : Half) (s : State) (k : Half → State → State) : Out :=
  if s.env.spiAck then
    .next (k (deviceHalf w s).1 ((deviceHalf w s).2.emit (.xfer16 w (deviceHalf w s).1)))
  else .fault .transportSilent

/-- By how much the clock advances before its next sample: scripted, or free (R26, R37; log 6). -/
def nextTick (s : State) : Nat × State :=
  match s.env.ticks with
  | t :: rest => (t, { s with env := { s.env with ticks := rest } })
  | [] => (Config.tickDraw s.draws, { s with draws := s.draws + 1 })

/-- The next sample of `now_ms` (R37): a count that wraps modulo 2^32. -/
def nextSample (s : State) : Millis :=
  s.env.now + BitVec.ofNat 32 (nextTick s).1

/-- NOW() (R20): one sample, recorded, and the state after it. -/
def sampleTime (s : State) : State :=
  { (nextTick s).2 with
    env := { (nextTick s).2.env with now := nextSample s }
    history := .time (nextSample s) :: s.history }

/-- POP() (R20, R27, R33): take the next payload byte. No step until the host offers one. -/
def popByte (s : State) (k : Byte → State → State) : Out :=
  match s.env.pin with
  | v :: rest => .next (k v ({ s with env := { s.env with pin := rest } }.emit (.pop v)))
  | [] => .fault .noPayloadByte

/-- PUSH(b) (R20, R27, R33): hand a byte over. No step until the host takes it. -/
def pushByte (v : Byte) (s : State) (k : State → State) : Out :=
  if s.env.poutReady then .next (k (s.emit (.push v))) else .fault .payloadNotTaken

/-- The operation ends with a result: its response is emitted by RESP (R240, R241). -/
def conclude (r : Result) (s : State) : State :=
  { s with result := r, seq := .resp }

/-- `raise E` (R240). -/
def raise (r : Result) (s : State) : State := conclude r s

/-- `FINISH(OK)` (R241). -/
def finish (s : State) : State := conclude .ok s

/-- The response word of the operation that is ending (R130, R240). -/
def pendingResp (s : State) : Word64 :=
  respWord s.sr s.cnt (rdataOrZero s.result s.rdata) s.result

/-- The RESP step (R240, R241): write `resp`, set `resp_valid`, return to IDLE. -/
def respond (s : State) : State :=
  { s with
    resp := pendingResp s
    respValid := true
    seq := .idle
    history := .resp (pendingResp s) :: s.history }

/-- What acceptance writes (R43, R52). It records no event. -/
def latch (w : Word64) (s : State) : State :=
  { s with
    cw := w, cnt := 0#24, sr := 0#8, el := 0#32, rdata := 0#8, respValid := false, seq := .accept }

/-- The IDLE step (R31, R52): take the command the host presents. No step while it presents none (R28). -/
def acceptCommand (s : State) : Out :=
  match s.env.cmds with
  | w :: rest => .next (latch w { s with env := { s.env with cmds := rest } })
  | [] => .fault .noCommand

/-- The last three checks of R235 for a legal command other than BEGIN, then its dispatch. -/
def checkAndDispatch (outOfBounds : Bool) (dispatch : State → State) (s : State) : Out :=
  if s.init = false then .next (raise .rejNotInit s)
  else if s.params.boundsCheck && outOfBounds then .next (raise .outOfRange s)
  else .next (dispatch s)

/-- The steps of an illegal command word (R125, R235): ACCEPT rejects it, RESP answers. -/
def illegalWord (s : State) : Out :=
  match s.seq with
  | .accept => .next (raise .rejIllegal s)
  | .resp => .next (respond s)
  | _ => .fault .offSequence

/-- Every register of R40 at its value of R60; `b` and `result` at the model's own (log 7, log 8). -/
def resetRegisters (s : State) : State :=
  { s with
    init := false, csId := 0#8, clkHz := 0#32, cw := 0#64, cur := 0#25, rem := 0#24, nb := 0#10,
    cnt := 0#24, sr := 0#8, t0 := 0#32, el := 0#32, rdata := 0#8, resp := 0#64, respValid := false,
    csN := true, csOe := false, seq := .idle, b := 0#8, result := .ok }

/-- One step with `rst` = 1 (R260 to R263): the registers are reset, the session is absent again (R61), and the
device sees an open transaction end (R262). It records no event and produces no response. -/
def resetStep (s : State) : State :=
  { resetRegisters s with
    env := { s.env with rst := s.env.rst - 1, session := none }
    dev := s.dev.cutOff s.draws
    draws := s.draws + 1 }

end Sys2Proof.Machine
end

