-- ==== Sys2Proof/Machine/Sequences.lean ====
section
/-! DEFINITION. The sub-sequences of R21, one primitive a step: POLL, WREN_SEQ, WRDI_SEQ, FRAME, and the data
phases of R50. Each answers for its own phases and is a stop at any other (log 20). -/

namespace Sys2Proof.Machine

/-- POLL() (R150 to R153). `ready` is where the caller goes on when the last status byte has WIP = 0 (R51). -/
def poll (ready : State → State) (s : State) : Out :=
  match s.seq with
  | .pT0 => .next { sampleTime s with t0 := nextSample s, seq := .pCsl }
  | .pCsl => .next ((csAssert s).goto .pCmd)
  | .pCmd => x8 Config.opRdsr s (fun _ s1 => s1.goto .pSr)
  | .pSr => x8 Config.dummyByte s (fun r s1 => { s1 with sr := r, seq := .pTime })
  | .pTime =>
    .next { sampleTime s with
      el := nextSample s - s.t0
      seq := if pollContinues s.params s.sr (nextSample s - s.t0) then .pSr else .pCsh }
  | .pCsh => .next (if wipSet s.sr then raise .busy (csDeassert s) else ready (csDeassert s))
  | _ => .fault .offSequence

/-- WREN_SEQ() (R170), then the caller's frame (R50: E_CSH goes to F_CSL). -/
def wrenSeq (s : State) : Out :=
  match s.seq with
  | .eCsl => .next ((csAssert s).goto .eCmd)
  | .eCmd => x8 Config.opWren s (fun _ s1 => s1.goto .eCsh)
  | .eCsh => .next ((csDeassert s).goto .fCsl)
  | _ => .fault .offSequence

/-- WRDI_SEQ() (R172). No caller exists (R173), so its end returns to IDLE. DESIGN CHOICE (log 12). -/
def wrdiSeq (s : State) : Out :=
  match s.seq with
  | .wrdiCsl => .next ((csAssert s).goto .wrdiCmd)
  | .wrdiCmd => x8 Config.opWrdi s (fun _ s1 => s1.goto .wrdiCsh)
  | .wrdiCsh => .next ((csDeassert s).goto .idle)
  | _ => .fault .offSequence

/-- CS_ASSERT() and FRAME(cmd, a) (R110), both words' answers discarded (R112). `after` is the successor of
F_W2 (R51). -/
def frame (cmd : Byte) (a : Addr) (after : State → State) (s : State) : Out :=
  match s.seq with
  | .fCsl => .next ((csAssert s).goto .fW1)
  | .fW1 => x16 (frameW1 cmd a) s (fun _ s1 => s1.goto .fW2)
  | .fW2 => x16 (frameW2 a) s (fun _ s1 => after s1)
  | _ => .fault .offSequence

/-- The data byte of WRITE_BYTE in D_TX (R180): `cnt <- 1`. -/
def sendByte (s : State) : Out :=
  x8 s.b s (fun _ s1 => { s1 with cnt := 1#24, seq := .fCsh })

/-- The captured byte of READ_BYTE in D_RX (R185): `rdata <- X8(DUMMY_BYTE)`, `cnt <- 1`. -/
def receiveByte (s : State) : Out :=
  x8 Config.dummyByte s (fun r s1 => { s1 with b := r, rdata := r, cnt := 1#24, seq := .fCsh })

/-- D_POP of WRITE_ARRAY (R200). -/
def popToSend (s : State) : Out :=
  popByte s (fun v s1 => { s1 with b := v, seq := .dTx })

/-- D_TX of WRITE_ARRAY (R200, R204): send `b`, advance the cursor, and go on until `nb` is 0. -/
def sendArrayByte (s : State) : Out :=
  x8 s.b s (fun _ s1 =>
    { s1 with
      cur := s.cur + 1#25
      rem := s.rem - 1#24
      nb := s.nb - 1#10
      cnt := s.cnt + 1#24
      seq := if s.nb - 1#10 = 0#10 then .fCsh else .dPop })

/-- D_RX of READ_ARRAY (R210). -/
def receiveArrayByte (s : State) : Out :=
  x8 Config.dummyByte s (fun r s1 => { s1 with b := r, seq := .dPush })

/-- D_PUSH of READ_ARRAY (R210): hand `b` over and go on until `rem` is 0. -/
def pushReceived (s : State) : Out :=
  pushByte s.b s (fun s1 =>
    { s1 with
      rem := s.rem - 1#24
      cnt := s.cnt + 1#24
      seq := if s.rem - 1#24 = 0#24 then .fCsh else .dRx })

/-- A_NEXT (R203): the end of the command, OUT_OF_RANGE, or the next page's burst. It records no event. -/
def pageAdvance (s : State) : State :=
  if s.rem = 0#24 then finish s
  else if Config.numPages ≤ page s.cur.toNat then raise .outOfRange s
  else { s with nb := burstLength s.cur s.rem, seq := .pT0 }

/-- After F_W2 of WRITE_BYTE (R51): D_TX with the data byte in `b`. -/
def loadData (data : Byte) (s : State) : State :=
  { s with b := data, seq := .dTx }

/-- After F_W2 of READ_ARRAY (R51, R212): D_RX while bytes are owed, else F_CSH. -/
def readOrClose (s : State) : State :=
  s.goto (if s.rem = 0#24 then .fCsh else .dRx)

/-- The five operations that poll, by their OP (R51, R158). -/
def isPollingOp (op : BitVec 4) : Bool :=
  op == 0x2#4 || op == 0x3#4 || op == 0x4#4 || op == 0x5#4 || op == 0x6#4

/-- After P_CSH with WIP clear, by the OP of the command being performed (R51). -/
def readyNext (op : BitVec 4) (s : State) : State :=
  if op = 0x6#4 then finish s
  else if op = 0x2#4 ∨ op = 0x4#4 then s.goto .eCsl
  else s.goto .fCsl

end Sys2Proof.Machine
end

