-- ==== Sys2Proof/Machine/ArrayOps.lean ====
section
/-! DEFINITION. WRITE_ARRAY with its page splitter, and READ_ARRAY (spec/44_array_ops.md). -/

namespace Sys2Proof.Machine

/-- WRITE_ARRAY (R200 to R209). -/
def execWriteArray (addr : Addr) (len : Len) (s : State) : Out :=
  match s.seq with
  | .accept => checkAndDispatch false (fun s1 => { s1 with cur := addr.setWidth 25, rem := len, seq := .aNext }) s
  | .aNext => .next (pageAdvance s)
  | .pT0 | .pCsl | .pCmd | .pSr | .pTime | .pCsh => poll (fun s1 => s1.goto .eCsl) s
  | .eCsl | .eCmd | .eCsh => wrenSeq s
  | .fCsl | .fW1 | .fW2 => frame Config.opWrite s.curAddr (fun s1 => s1.goto .dPop) s
  | .dPop => popToSend s
  | .dTx => sendArrayByte s
  | .fCsh => .next ((csDeassert s).goto .aNext)
  | .resp => .next (respond s)
  | _ => .fault .offSequence

/-- READ_ARRAY (R210 to R213). -/
def execReadArray (addr : Addr) (len : Len) (s : State) : Out :=
  match s.seq with
  | .accept => checkAndDispatch (readArrayOutOfBounds addr len) (fun s1 => { s1 with rem := len, seq := .pT0 }) s
  | .pT0 | .pCsl | .pCmd | .pSr | .pTime | .pCsh => poll (fun s1 => s1.goto .fCsl) s
  | .fCsl | .fW1 | .fW2 => frame Config.opRead addr readOrClose s
  | .dRx => receiveArrayByte s
  | .dPush => pushReceived s
  | .fCsh => .next (finish (csDeassert s))
  | .resp => .next (respond s)
  | _ => .fault .offSequence

end Sys2Proof.Machine
end

