-- ==== Sys2Proof/Machine/Begin.lean ====
section
/-! DEFINITION. BEGIN (spec/40_init.md). -/

namespace Sys2Proof.Machine

/-- BEGIN (R141), with ACCEPT's checks for it (R142, R143, R235). -/
def execBegin (csid : CsId) (clkhz : Hertz) (s : State) : Out :=
  match s.seq with
  | .accept =>
    if clkhz = 0#32 then .next (raise .rejIllegal s)
    else if s.init then .next (raise .rejAlreadyInit s)
    else .next (s.goto .bCscfg)
  | .bCscfg => .next ({ csConfig csid s with clkHz := clkhz }.goto .bCsh)
  | .bCsh => .next ((csDeassert s).goto .bSpicfg)
  | .bSpicfg => .next (finish { spiConfig s.clkHz s with init := true })
  | .resp => .next (respond s)
  | _ => .fault .offSequence

end Sys2Proof.Machine
end

