-- ==== Sys2Proof/Machine/ByteOps.lean ====
section
/-! DEFINITION. WRITE_BYTE and READ_BYTE (spec/43_byte_ops.md). -/

namespace Sys2Proof.Machine

/-- WRITE_BYTE (R180 to R183). -/
def execWriteByte (addr : Addr) (data : Byte) (s : State) : Out :=
  match s.seq with
  | .accept => checkAndDispatch (byteOutOfBounds addr) (fun s1 => s1.goto .pT0) s
  | .pT0 | .pCsl | .pCmd | .pSr | .pTime | .pCsh => poll (fun s1 => s1.goto .eCsl) s
  | .eCsl | .eCmd | .eCsh => wrenSeq s
  | .fCsl | .fW1 | .fW2 => frame Config.opWrite addr (loadData data) s
  | .dTx => sendByte s
  | .fCsh => .next (finish (csDeassert s))
  | .resp => .next (respond s)
  | _ => .fault .offSequence

/-- READ_BYTE (R185 to R188). -/
def execReadByte (addr : Addr) (s : State) : Out :=
  match s.seq with
  | .accept => checkAndDispatch (byteOutOfBounds addr) (fun s1 => s1.goto .pT0) s
  | .pT0 | .pCsl | .pCmd | .pSr | .pTime | .pCsh => poll (fun s1 => s1.goto .fCsl) s
  | .fCsl | .fW1 | .fW2 => frame Config.opRead addr (fun s1 => s1.goto .dRx) s
  | .dRx => receiveByte s
  | .fCsh => .next (finish (csDeassert s))
  | .resp => .next (respond s)
  | _ => .fault .offSequence

end Sys2Proof.Machine
end

