-- ==== Sys2Proof/Machine/Frames.lean ====
section
/-! DEFINITION. The device instructions READ and WRITE (R105, R107): the framed transaction from its CS_ASSERT() to
its CS_DEASSERT(), inside the host command that sends it. -/

namespace Sys2Proof.Machine

/-- READ (R105): `n` = 1 for READ_BYTE (OP 3) and `n` = LEN for READ_ARRAY (OP 5). -/
def execRead (a : Addr) (s : State) : Out :=
  if s.op = 0x3#4 then
    match s.seq with
    | .fCsl | .fW1 | .fW2 => frame Config.opRead a (fun s1 => s1.goto .dRx) s
    | .dRx => receiveByte s
    | .fCsh => .next (finish (csDeassert s))
    | _ => .fault .offSequence
  else if s.op = 0x5#4 then
    match s.seq with
    | .fCsl | .fW1 | .fW2 => frame Config.opRead a readOrClose s
    | .dRx => receiveArrayByte s
    | .dPush => pushReceived s
    | .fCsh => .next (finish (csDeassert s))
    | _ => .fault .offSequence
  else .fault .offSequence

/-- WRITE (R107): one data byte, `arg[7:0]`, for WRITE_BYTE (OP 2, R51), a burst of `nb` payload bytes for
WRITE_ARRAY (OP 4). -/
def execWrite (a : Addr) (s : State) : Out :=
  if s.op = 0x2#4 then
    match s.seq with
    | .fCsl | .fW1 | .fW2 => frame Config.opWrite a (loadData (fieldData s.cw)) s
    | .dTx => sendByte s
    | .fCsh => .next (finish (csDeassert s))
    | _ => .fault .offSequence
  else if s.op = 0x4#4 then
    match s.seq with
    | .fCsl | .fW1 | .fW2 => frame Config.opWrite a (fun s1 => s1.goto .dPop) s
    | .dPop => popToSend s
    | .dTx => sendArrayByte s
    | .fCsh => .next ((csDeassert s).goto .aNext)
    | _ => .fault .offSequence
  else .fault .offSequence

end Sys2Proof.Machine
end

