-- ==== Sys2Proof/Machine/Poll.lean ====
section
/-! DEFINITION. WAIT_READY and the device instruction RDSR (spec/41_busy_poll.md). -/

namespace Sys2Proof.Machine

/-- WAIT_READY (R160). -/
def execWaitReady (s : State) : Out :=
  match s.seq with
  | .accept => checkAndDispatch false (fun s1 => s1.goto .pT0) s
  | .pT0 | .pCsl | .pCmd | .pSr | .pTime | .pCsh => poll finish s
  | .resp => .next (respond s)
  | _ => .fault .offSequence

/-- RDSR (R103, R150): the busy-poll of the command being performed, with the caller's successor by R51. -/
def execRdsr (s : State) : Out :=
  if isPollingOp s.op then poll (readyNext s.op) s else .fault .offSequence

end Sys2Proof.Machine
end

