-- ==== Sys2Proof/Machine/WriteEnable.lean ====
section
/-! DEFINITION. The device instructions WREN, WRDI and WRSR (spec/42_write_enable.md, R104). -/

namespace Sys2Proof.Machine

/-- WREN (R101, R170). -/
def execWren (s : State) : Out := wrenSeq s

/-- WRDI (R102, R172). No host operation sends it (R173); the model gives the sub-sequence its meaning. -/
def execWrdi (s : State) : Out := wrdiSeq s

/-- WRSR (R104): "A model gives WRSR no semantics." -/
def execWrsr (_ : State) : Out := .refused .wrsrNoSemantics

end Sys2Proof.Machine
end

