-- ==== Sys2Proof/Machine/Dispatch.lean ====
section
/-! DEFINITION. One arm per instruction. -/

namespace Sys2Proof.Machine

def exec (i : Instr) (s : State) : Host.Outcome State Fault Refusal :=
  match i with
  | .begin csid clkhz => Sys2Proof.Machine.execBegin csid clkhz s
  | .writeByte addr data => Sys2Proof.Machine.execWriteByte addr data s
  | .readByte addr => Sys2Proof.Machine.execReadByte addr s
  | .writeArray addr len => Sys2Proof.Machine.execWriteArray addr len s
  | .readArray addr len => Sys2Proof.Machine.execReadArray addr len s
  | .waitReady => Sys2Proof.Machine.execWaitReady s
  | .wren => Sys2Proof.Machine.execWren s
  | .wrdi => Sys2Proof.Machine.execWrdi s
  | .rdsr => Sys2Proof.Machine.execRdsr s
  | .wrsr => Sys2Proof.Machine.execWrsr s
  | .read addr => Sys2Proof.Machine.execRead addr s
  | .write addr => Sys2Proof.Machine.execWrite addr s

end Sys2Proof.Machine
end

