-- ==== Sys2Proof/Machine/Fetch.lean ====
section
/-! DEFINITION. Which instruction the next step performs, and the state in which a given instruction is next. -/

namespace Sys2Proof.Machine

/-- The instruction in flight: the latched command word decoded (R125), or, at the model's own phases, the device
instruction they stand for (log 12, log 13). -/
def instrInFlight (s : State) : Except DecodeError Instr :=
  match s.seq with
  | .wrdiCsl | .wrdiCmd | .wrdiCsh => .ok .wrdi
  | .wrsr => .ok .wrsr
  | _ => decode (.host s.cw)

/-- The command word of an instruction, or of the shortest command that sends a device instruction: WAIT_READY
for RDSR, WRITE_BYTE for WREN and WRITE, READ_BYTE for READ (R100). -/
def carrierWord : Instr → Word64
  | .begin csid clkhz => formatB 0x1#4 csid clkhz
  | .writeByte addr data => formatA 0x2#4 addr (0#16 ++ data)
  | .readByte addr => formatA 0x3#4 addr 0#24
  | .writeArray addr len => formatA 0x4#4 addr len
  | .readArray addr len => formatA 0x5#4 addr len
  | .waitReady => formatC 0x6#4
  | .wren => formatA 0x2#4 0#24 0#24
  | .wrdi => 0#64
  | .rdsr => formatC 0x6#4
  | .wrsr => 0#64
  | .read addr => formatA 0x3#4 addr 0#24
  | .write addr => formatA 0x2#4 addr 0#24

/-- The phase at which an instruction's first step runs: ACCEPT for a host command, the CS_ASSERT() of its
transaction for a device instruction. -/
def entryPhase : Instr → Phase
  | .begin _ _ => .accept
  | .writeByte _ _ => .accept
  | .readByte _ => .accept
  | .writeArray _ _ => .accept
  | .readArray _ _ => .accept
  | .waitReady => .accept
  | .wren => .eCsl
  | .wrdi => .wrdiCsl
  | .rdsr => .pCsl
  | .wrsr => .wrsr
  | .read _ => .fCsl
  | .write _ => .fCsl

/-- `s` with an instruction next: its word latched as acceptance latches it (R43), at the instruction's first
phase, and `rst` = 0 (log 2). -/
def placeInstr (i : Instr) (s : State) : State :=
  { latch (carrierWord i) s with seq := entryPhase i, env := { s.env with rst := 0 } }

/-- `s` with a word that is no instruction latched; ACCEPT rejects it (R127). -/
def placeWord (w : Word64) (s : State) : State :=
  { latch w s with env := { s.env with rst := 0 } }

/-- The body of State.withFetchWord. -/
def placeTableWord (s : State) (nbits w : Nat) : State :=
  match decodeTableWord nbits w with
  | some i => placeInstr i s
  | none => placeWord (BitVec.ofNat 64 w) s

end Sys2Proof.Machine
end

