-- ==== Sys2Proof/Machine/Step.lean ====
section
/-! DEFINITION. One step of the engine. -/

namespace Sys2Proof.Machine

/-- One engine step: reset while `rst` = 1 (R260), acceptance in IDLE (R52), otherwise the next primitive of the
instruction in flight (R50, R51). -/
def step (s : State) : Host.Outcome State Fault Refusal :=
  if s.env.rst ≠ 0 then .next (resetStep s)
  else
    match s.seq with
    | .idle => acceptCommand s
    | _ =>
      match instrInFlight s with
      | .ok i => exec i s
      | .error _ => illegalWord s

/-- `s` with the instruction whose bits are `w` next, so that the very next step runs it (log 2). -/
def State.withFetchWord (s : State) (nbits w : Nat) : State :=
  placeTableWord s nbits w

end Sys2Proof.Machine
end

