-- ==== Sys2Proof/Machine/Assembler.lean ====
section
/-! DEFINITION. The textual form of command sequences (R129): lines to words, and characters to lines. -/

namespace Sys2Proof.Machine

/-- The instruction an assembler line stands for (R129). -/
def asmInstr : AsmLine → Instr
  | .begin csid hz => .begin (BitVec.ofNat 8 csid) (BitVec.ofNat 32 hz)
  | .wrb addr data => .writeByte (BitVec.ofNat 24 addr) (BitVec.ofNat 8 data)
  | .rdb addr => .readByte (BitVec.ofNat 24 addr)
  | .wra addr len => .writeArray (BitVec.ofNat 24 addr) (BitVec.ofNat 24 len)
  | .rda addr len => .readArray (BitVec.ofNat 24 addr) (BitVec.ofNat 24 len)
  | .wait => .waitReady
  | .wrad addr bytes => .writeArray (BitVec.ofNat 24 addr) (BitVec.ofNat 24 bytes.length)

/-- The word of the right column of R129. -/
def asmWord : AsmLine → Word64
  | .begin csid hz => formatB 0x1#4 (BitVec.ofNat 8 csid) (BitVec.ofNat 32 hz)
  | .wrb addr data => formatA 0x2#4 (BitVec.ofNat 24 addr) (BitVec.ofNat 24 data)
  | .rdb addr => formatA 0x3#4 (BitVec.ofNat 24 addr) 0#24
  | .wra addr len => formatA 0x4#4 (BitVec.ofNat 24 addr) (BitVec.ofNat 24 len)
  | .rda addr len => formatA 0x5#4 (BitVec.ofNat 24 addr) (BitVec.ofNat 24 len)
  | .wait => formatC 0x6#4
  | .wrad addr bytes => formatA 0x4#4 (BitVec.ofNat 24 addr) (BitVec.ofNat 24 bytes.length)

/-- The payload bytes a line has the host offer: those of `wra.d` (R129). -/
def asmPayload : AsmLine → List Byte
  | .wrad _ bytes => bytes.map (BitVec.ofNat 8)
  | _ => []

/-- The host presents a list of lines after what it already presents: their words, and their payload bytes. -/
def presentLines (lines : List AsmLine) (s : State) : State :=
  { s with
    env := { s.env with
      cmds := s.env.cmds ++ lines.map asmWord
      pin := s.env.pin ++ lines.flatMap asmPayload } }

/-- A token of a line: a word of letters and digits, a comma, or a brace. -/
inductive AsmToken where
  | word (cs : List Char)
  | comma
  | open
  | close
deriving DecidableEq, Repr

/-- The word collected so far, as a token before `rest`. -/
def flushWord (acc : List Char) (rest : List AsmToken) : List AsmToken :=
  if acc.isEmpty then rest else .word acc.reverse :: rest

/-- Split a line into tokens; `;` starts a comment (R129). Blanks are spaces and tabs (log 23). -/
def tokenize (acc : List Char) : List Char → List AsmToken
  | [] => flushWord acc []
  | c :: rest =>
    if c = ';' then flushWord acc []
    else if c = ',' then flushWord acc (.comma :: tokenize [] rest)
    else if c = Char.ofNat 123 then flushWord acc (.open :: tokenize [] rest)
    else if c = Char.ofNat 125 then flushWord acc (.close :: tokenize [] rest)
    else if c = ' ' ∨ c = '\t' then flushWord acc (tokenize [] rest)
    else tokenize (c :: acc) rest

/-- The value of a digit below `base`. -/
def digitValue (base : Nat) (c : Char) : Option Nat :=
  let n := c.toNat
  let v :=
    if 48 ≤ n ∧ n ≤ 57 then n - 48
    else if 97 ≤ n ∧ n ≤ 102 then n - 87
    else if 65 ≤ n ∧ n ≤ 70 then n - 55
    else base
  if v < base then some v else none

/-- The number of a run of digits after `acc`. -/
def digitsValue (base acc : Nat) : List Char → Option Nat
  | [] => some acc
  | c :: rest =>
    match digitValue base c with
    | some v => digitsValue base (acc * base + v) rest
    | none => none

/-- A number: decimal, or hexadecimal with `0x` (R129). -/
def parseNumber : List Char → Option Nat
  | [] => none
  | ['0', 'x'] => none
  | '0' :: 'x' :: rest => digitsValue 16 0 rest
  | cs => digitsValue 10 0 cs

/-- The bytes between the braces of `wra.d`. -/
def parseBytes : List AsmToken → Option (List Nat)
  | [.close] => some []
  | [.word w, .close] => (parseNumber w).map (fun v => [v])
  | .word w :: .comma :: .word w2 :: rest =>
    match parseNumber w, parseBytes (.word w2 :: rest) with
    | some v, some vs => some (v :: vs)
    | _, _ => none
  | _ => none

/-- The line a list of tokens spells (R129), if it spells one. -/
def parseTokens : List AsmToken → Option AsmLine
  | [.word m] => if m = ['w', 'a', 'i', 't'] then some .wait else none
  | [.word m, .word a] =>
    if m = ['r', 'd', 'b'] then (parseNumber a).map .rdb else none
  | [.word m, .word a, .comma, .word b] =>
    match parseNumber a, parseNumber b with
    | some x, some y =>
      if m = ['b', 'e', 'g', 'i', 'n'] then some (.begin x y)
      else if m = ['w', 'r', 'b'] then some (.wrb x y)
      else if m = ['w', 'r', 'a'] then some (.wra x y)
      else if m = ['r', 'd', 'a'] then some (.rda x y)
      else none
    | _, _ => none
  | .word m :: .word a :: .comma :: .open :: rest =>
    if m = ['w', 'r', 'a', '.', 'd'] then
      match parseNumber a, parseBytes rest with
      | some x, some vs => some (.wrad x vs)
      | _, _ => none
    else none
  | _ => none

/-- One line of text: nothing (blank or comment), a well-formed line, or no line at all. -/
def parseLine (cs : List Char) : Option (Option AsmLine) :=
  match tokenize [] cs with
  | [] => some none
  | toks =>
    match parseTokens toks with
    | some l => if l.wf then some (some l) else none
    | none => none

end Sys2Proof.Machine
end

