-- ==== Sys2Proof/Machine/Ports.lean ====
section
/-! DEFINITION. The output ports of R30 as functions of the registers and the phase. -/

namespace Sys2Proof.Machine

/-- The output ports of R30, at the phase about to be performed. -/
structure OutPorts where
  cmdReady : Bool
  respValid : Bool
  respWord : Word64
  pinReady : Bool
  poutValid : Bool
  poutData : Byte
  csN : Bool
  csOe : Bool
  csLine : CsId
  spiReq : Bool
  spiW16 : Bool
  spiMosi : Half
  spiCfg : Bool
  spiHz : Hertz
  spiMode : SpiMode
  spiMsbFirst : Bool
deriving DecidableEq, Repr

/-- A request on the SPI exchange port (R35): one byte or one 16-bit word to send. -/
inductive SpiRequest where
  | byte (v : Byte)
  | half (w : Half)
deriving DecidableEq, Repr

/-- The instruction byte of the command's frame: WRITE for OP 2 and 4, else READ (R180, R185, R200, R210). -/
def frameCommand (s : State) : Byte :=
  if s.op = 0x2#4 ∨ s.op = 0x4#4 then Config.opWrite else Config.opRead

/-- The frame's address: `cur[23:0]` for WRITE_ARRAY, else `addr` (R180, R185, R200, R210). -/
def frameAddress (s : State) : Addr :=
  if s.op = 0x4#4 then s.curAddr else s.addr

/-- What the phase exchanges, if it is an SPI phase (R50). -/
def spiRequest (s : State) : Option SpiRequest :=
  match s.seq with
  | .pCmd => some (.byte Config.opRdsr)
  | .pSr => some (.byte Config.dummyByte)
  | .eCmd => some (.byte Config.opWren)
  | .wrdiCmd => some (.byte Config.opWrdi)
  | .fW1 => some (.half (frameW1 (frameCommand s) (frameAddress s)))
  | .fW2 => some (.half (frameW2 (frameAddress s)))
  | .dTx => some (.byte s.b)
  | .dRx => some (.byte Config.dummyByte)
  | _ => none

/-- R30 to R36: every output port. A strobe is 1 only in its own phase. DESIGN CHOICE (log 29): while `spi_req` = 0
`spi_w16` and `spi_mosi` are 0, and while `pout_valid` = 0 `pout_data` shows `b`; past R60's reset values the spec does
not say. DESIGN CHOICE (log 30): `rst` = 1 acts on the ports through its reset step alone, so before that step the
strobes still show the phase about to be cut off. -/
def outPorts (s : State) : OutPorts :=
  { cmdReady := s.seq == .idle
    respValid := s.respValid
    respWord := s.resp
    pinReady := s.seq == .dPop
    poutValid := s.seq == .dPush
    poutData := s.b
    csN := s.csN
    csOe := s.csOe
    csLine := s.csId
    spiReq := (spiRequest s).isSome
    spiW16 := match spiRequest s with
      | some (.half _) => true
      | _ => false
    spiMosi := match spiRequest s with
      | some (.byte v) => v.setWidth 16
      | some (.half w) => w
      | none => 0#16
    spiCfg := s.seq == .bSpicfg
    spiHz := s.clkHz
    spiMode := s.params.spiMode
    spiMsbFirst := true }

end Sys2Proof.Machine
end

