-- ==== Sys2Proof/Safety.lean ====
section
/-! DEFINITION. The terms claims about the machine use: where chip-select is low, which phases an operation
owns, when the engine waits, projections of the history, and the engine's invariant. -/

namespace Sys2Proof.Machine

/-- The phases before which a transaction is open: after a `*_CSL` step, up to the matching `*_CSH` step (R54;
log 28). -/
def csLow : Phase → Bool
  | .pCmd | .pSr | .pTime | .pCsh => true
  | .eCmd | .eCsh => true
  | .fW1 | .fW2 | .dPop | .dTx | .dRx | .dPush | .fCsh => true
  | .wrdiCmd | .wrdiCsh => true
  | _ => false

/-- The model's own phases, which R50 does not have. -/
def isBare : Phase → Bool
  | .wrdiCsl | .wrdiCmd | .wrdiCsh | .wrsr => true
  | _ => false

/-- The phases of POLL (R150). -/
def isPollPhase : Phase → Bool
  | .pT0 | .pCsl | .pCmd | .pSr | .pTime | .pCsh => true
  | _ => false

/-- The phases of WREN_SEQ (R170). -/
def isWrenPhase : Phase → Bool
  | .eCsl | .eCmd | .eCsh => true
  | _ => false

/-- The phases of a frame (R110). -/
def isFramePhase : Phase → Bool
  | .fCsl | .fW1 | .fW2 => true
  | _ => false

/-- The phases after an OK poll, inside the device access it guards (R96). -/
def isAccessPhase : Phase → Bool
  | .dPop | .dTx | .dRx | .dPush | .fCsh => true
  | p => isWrenPhase p || isFramePhase p

/-- R51: the phases an operation passes through between ACCEPT and RESP. -/
def owns (i : Instr) (p : Phase) : Bool :=
  match i with
  | .begin _ _ => p == .bCscfg || p == .bCsh || p == .bSpicfg
  | .writeByte _ _ => isPollPhase p || isWrenPhase p || isFramePhase p || p == .dTx || p == .fCsh
  | .readByte _ => isPollPhase p || isFramePhase p || p == .dRx || p == .fCsh
  | .writeArray _ _ =>
    p == .aNext || isPollPhase p || isWrenPhase p || isFramePhase p || p == .dPop || p == .dTx || p == .fCsh
  | .readArray _ _ => isPollPhase p || isFramePhase p || p == .dRx || p == .dPush || p == .fCsh
  | .waitReady => isPollPhase p
  | .wren => false
  | .wrdi => false
  | .rdsr => false
  | .wrsr => false
  | .read _ => false
  | .write _ => false

/-- A BEGIN. -/
def isBegin : Instr → Bool
  | .begin _ _ => true
  | _ => false

/-- The engine waits for a partner: no command in IDLE, no payload byte in D_POP, no readiness in D_PUSH, no
acknowledge in an SPI phase (R27, R28, R53). -/
def waits (s : State) : Bool :=
  match s.seq with
  | .idle => s.env.cmds.isEmpty
  | .dPop => s.env.pin.isEmpty
  | .dPush => !s.env.poutReady
  | _ => (spiRequest s).isSome && !s.env.spiAck

/-- The stop a waiting engine answers with. -/
def waitFault (s : State) : Fault :=
  match s.seq with
  | .idle => .noCommand
  | .dPop => .noPayloadByte
  | .dPush => .payloadNotTaken
  | _ => .transportSilent

/-- The bytes one transaction sends to the device, from Cs(0) to Cs(1) (R86): the answers, and the device after. -/
def Device.exchangeAll (d : Device) : List Byte → List Answer × Device
  | [] => ([], d)
  | v :: rest =>
    let r := d.receive v
    let q := Device.exchangeAll r.2 rest
    (r.1 :: q.1, q.2)

/-- One whole transaction (R86). -/
def Device.transact (d : Device) (bytes : List Byte) : List Answer × Device :=
  let q := d.select.exchangeAll bytes
  (q.1, q.2.deselect)

/-- The byte a Push event hands over. -/
def pushedByte : Event → Option Byte
  | .push v => some v
  | _ => none

/-- R28: a finished run: IDLE, no command presented, no reset pending. -/
def finished (s : State) : Bool :=
  s.seq == .idle && s.env.cmds.isEmpty && s.env.rst == 0

/-- R24: the SPI-facing projection of a history. -/
def spiFacing (h : List Event) : List Event :=
  h.filter (fun e => match e with
    | .cs _ => true
    | .xfer8 _ _ => true
    | .xfer16 _ _ => true
    | _ => false)

/-- The instruction byte of every transaction of a history (newest first): the first byte sent after a Cs(0)
(R77, R100). -/
def instructionBytes : List Event → List Byte
  | [] => []
  | .xfer8 m _ :: .cs false :: rest => m :: instructionBytes rest
  | .xfer16 w _ :: .cs false :: rest => highByte w :: instructionBytes rest
  | _ :: rest => instructionBytes rest

/-- R108: the codes the engine sends. -/
def sentCode (c : Byte) : Bool :=
  c == Config.opWren || c == Config.opRdsr || c == Config.opRead || c == Config.opWrite

/-- The last event is a Cs(0). -/
def opensTransaction (h : List Event) : Bool :=
  match h with
  | .cs false :: _ => true
  | _ => false

/-- An event without what the environment answered: MISO values and clock samples are 0. -/
def Event.sent : Event → Event
  | .xfer8 m _ => .xfer8 m 0#8
  | .xfer16 w _ => .xfer16 w 0#16
  | .time _ => .time 0#32
  | e => e

/-- The last events of a newest-first history are the end of a POLL() that returned OK: its last status byte, with
WIP = 0, the sample after it, and Cs(1) (R150, R153). -/
def pollEnd (h : List Event) : Bool :=
  match h with
  | .cs true :: .time _ :: .xfer8 d st :: _ => d == Config.dummyByte && !wipSet st
  | _ => false

/-- R171 on a newest-first history: the events just before a WRITE frame's Cs(0) are a WREN transaction, and just
before it the end of a poll that returned OK. -/
def armed (h : List Event) : Bool :=
  match h with
  | .cs true :: .xfer8 c _ :: .cs false :: before => c == Config.opWren && pollEnd before
  | _ => false

/-- R171: every WRITE frame of a history is armed. -/
def writesArmed : List Event → Bool
  | [] => true
  | e :: rest =>
    (match e, rest with
      | .xfer16 w _, .cs false :: before => highByte w != Config.opWrite || armed before
      | _, _ => true) && writesArmed rest

/-- `t` is `s` but for what the other agents hold (R22): the device, and the environment's inputs. The sample of the
clock is the engine's, and there is no reset. -/
def SameEngine (s t : State) : Prop :=
  t = { s with env := t.env, dev := t.dev } ∧ t.env.now = s.env.now ∧ t.env.rst = 0

/-- A run of the engine among the other agents (R22, log 25): at each index the engine makes its step, or waits if it
has none, and then the others change what they present. -/
def AgentsRun (r : Nat → State) : Prop :=
  (r 0).env.rst = 0 ∧
  ∀ k, (∃ t, step (r k) = .next t ∧ SameEngine t (r (k + 1))) ∨
    ((∀ t, step (r k) ≠ .next t) ∧ SameEngine (r k) (r (k + 1)))

/-- The three duties of R272 on a run. -/
structure PlatformDuties (r : Nat → State) : Prop where
  /-- The transport eventually acknowledges every exchange. -/
  transport : ∀ k, (outPorts (r k)).spiReq = true → ∃ j, k ≤ j ∧ (r j).env.spiAck = true
  /-- The clock eventually advances by at least BUSY_TIMEOUT_MS from any sample, while the engine polls; read on
  the samples, modulo 2^32 (log 6). -/
  clock : ∀ k, ∃ j, k ≤ j ∧ (isPollPhase (r j).seq = false ∨
    (r k).params.busyTimeoutMs.toNat ≤ ((r j).env.now - (r k).env.now).toNat)
  /-- The host offers each payload byte the engine waits for (R270). -/
  payloadIn : ∀ k, (outPorts (r k)).pinReady = true → ∃ j, k ≤ j ∧ (r j).env.pin ≠ []
  /-- The host takes each byte the engine offers (R271). -/
  payloadOut : ∀ k, (outPorts (r k)).poutValid = true → ∃ j, k ≤ j ∧ (r j).env.poutReady = true

/-- The chip-select invariant (R54, R242). -/
def ChipSelectInv (s : State) : Prop :=
  s.csN = !csLow s.seq

/-- The phase belongs to the latched command, and `init` is as that command found it (R42, R51, R235). -/
def phaseOwned (s : State) : Bool :=
  match s.seq with
  | .idle | .accept | .resp => true
  | p =>
    match decode (.host s.cw) with
    | .ok i => owns i p && (s.init != isBegin i)
    | .error _ => false

/-- `cs_oe` is 1 exactly from BEGIN's B_CSCFG on (R141). -/
def lineDriven (s : State) : Bool :=
  s.csOe == (s.init || s.seq == .bCsh || s.seq == .bSpicfg)

/-- What the last status byte says where it matters (R96, R134, R152, R153, R231): not WIP in a device access,
the loop's condition false in P_CSH, WIP set and the timeout reached when the outcome is BUSY. -/
def statusOk (s : State) : Bool :=
  (!isAccessPhase s.seq || !wipSet s.sr) &&
  (s.seq != .pCsh || !pollContinues s.params s.sr s.el) &&
  (s.seq != .resp || s.result != .busy ||
    (wipSet s.sr && decide (s.params.busyTimeoutMs.toNat ≤ s.el.toNat)))

/-- WRITE_ARRAY between A_NEXT steps (R202 to R205): the cursor, the bytes left and the burst agree, and the
burst stays in its page. -/
def splitterOk (addr : Addr) (len : Len) (s : State) : Bool :=
  decide (s.cnt.toNat + s.rem.toNat = len.toNat) &&
  decide (s.cur.toNat = addr.toNat + s.cnt.toNat) &&
  (if isPollPhase s.seq || isWrenPhase s.seq || isFramePhase s.seq then
      s.nb == burstLength s.cur s.rem && s.rem != 0#24 && decide (page s.cur.toNat < Config.numPages)
    else if s.seq == .dPop || s.seq == .dTx then
      decide (1 ≤ s.nb.toNat) && decide (s.nb.toNat ≤ s.rem.toNat) &&
      decide (offset s.cur.toNat + s.nb.toNat ≤ Config.pageSize) &&
      decide (offset s.cur.toNat + s.nb.toNat = Config.pageSize ∨ s.nb = s.rem.setWidth 10 ∧ s.rem.toNat ≤ 512) &&
      decide (page s.cur.toNat < Config.numPages)
    else if s.seq == .fCsh then
      s.nb == 0#10 && (s.rem == 0#24 || offset s.cur.toNat == 0)
    else true)

/-- The byte counts of the command in flight (R133): what `cnt` and `rem` hold at each phase. -/
def countsOk (s : State) : Bool :=
  match decode (.host s.cw) with
  | .ok (.writeByte _ _) =>
    s.seq == .idle || s.cnt == (if s.seq == .fCsh || (s.seq == .resp && s.result == .ok) then 1#24 else 0#24)
  | .ok (.readByte _) =>
    s.seq == .idle || s.cnt == (if s.seq == .fCsh || (s.seq == .resp && s.result == .ok) then 1#24 else 0#24)
  | .ok (.writeArray addr len) =>
    s.seq == .idle || (if s.seq == .accept then s.cnt == 0#24
      else if s.seq == .resp then s.result != .ok || s.cnt == len
      else splitterOk addr len s)
  | .ok (.readArray _ len) =>
    s.seq == .idle || (if s.seq == .accept then s.cnt == 0#24
      else if s.seq == .resp then s.cnt == (if s.result == .ok then len else 0#24)
      else decide (s.cnt.toNat + s.rem.toNat = len.toNat) &&
        (!(isPollPhase s.seq || isFramePhase s.seq) || s.cnt == 0#24) &&
        (!(s.seq == .dRx || s.seq == .dPush) || s.rem != 0#24) &&
        (s.seq != .fCsh || s.rem == 0#24))
  | _ => s.seq == .idle || s.cnt == 0#24

/-- RDATA can be nonzero only for READ_BYTE (R132, R241). -/
def rdataOk (s : State) : Bool :=
  s.rdata == 0#8 || s.op == 0x3#4

/-- The engine's invariant: every clause holds at reset and every step keeps them together. -/
structure EngineInv (s : State) : Prop where
  chipSelect : ChipSelectInv s
  owned : phaseOwned s = true
  driven : lineDriven s = true
  status : statusOk s = true
  counts : countsOk s = true
  rdata : rdataOk s = true

/-- R108, R173 as an invariant of the history: only the four codes were sent, and no phase that exchanges anything
but an instruction byte or a frame's first word comes right after a Cs(0). -/
structure CodesInv (s : State) : Prop where
  codes : ∀ c ∈ instructionBytes s.history, sentCode c = true
  noBare : isBare s.seq = false
  notFirst : s.seq = .pSr ∨ s.seq = .dTx ∨ s.seq = .dRx ∨ s.seq = .fW2 → opensTransaction s.history = false

/-- R171 as an invariant of the history and the phase. -/
structure ArmedInv (s : State) : Prop where
  armedWrites : writesArmed s.history = true
  statusRead : s.seq = .pTime → ∃ h, s.history = .xfer8 Config.dummyByte s.sr :: h
  statusTimed : s.seq = .pCsh → ∃ t h, s.history = .time t :: .xfer8 Config.dummyByte s.sr :: h
  pollEnded : s.seq = .eCsl → pollEnd s.history = true
  wrenOpen : s.seq = .eCmd → ∃ h, s.history = .cs false :: h ∧ pollEnd h = true
  wrenSent : s.seq = .eCsh → ∃ m h, s.history = .xfer8 Config.opWren m :: .cs false :: h ∧ pollEnd h = true
  frameNext : s.seq = .fCsl → (s.op = 0x2#4 ∨ s.op = 0x4#4) → armed s.history = true
  frameOpen : s.seq = .fW1 → (s.op = 0x2#4 ∨ s.op = 0x4#4) →
    ∃ h, s.history = .cs false :: h ∧ armed h = true
  frameSecond : s.seq = .fW2 → opensTransaction s.history = false

/-- The device's memory is in canonical form (log 10). -/
def MemoryInv (s : State) : Prop :=
  s.dev.mem.wf = true

/-- R135: the response word's reserved bits are 0. -/
def ResponseInv (s : State) : Prop :=
  respReservedClear s.resp = true

end Sys2Proof.Machine
end

