-- ==== Sys2Proof/Certificates/Slice0/Obligations.lean ====
section
/-! DEFINITION. The statements. First the shapes that several of them share. -/

open Sys2Proof Sys2Proof.Machine

namespace Sys2Proof.Claims

/-- `exec i` performs each line of POLL() (R150) at its phase; `ready` is the caller's successor by R51. -/
def PollPhases (i : Instr) (ready : State → State) (s : State) : Prop :=
  (s.seq = .pT0 → exec i s = .next { sampleTime s with t0 := nextSample s, seq := .pCsl }) ∧
  (s.seq = .pCsl → exec i s = .next { s with
    csN := false, dev := s.dev.select, history := .cs false :: s.history, seq := .pCmd }) ∧
  (s.seq = .pCmd → s.env.spiAck = true → exec i s = .next { (deviceByte 0x05#8 s).2 with
    history := .xfer8 0x05#8 (deviceByte 0x05#8 s).1 :: s.history, seq := .pSr }) ∧
  (s.seq = .pSr → s.env.spiAck = true → exec i s = .next { (deviceByte 0x00#8 s).2 with
    history := .xfer8 0x00#8 (deviceByte 0x00#8 s).1 :: s.history
    sr := (deviceByte 0x00#8 s).1, seq := .pTime }) ∧
  (s.seq = .pTime → exec i s = .next { sampleTime s with
    el := nextSample s - s.t0
    seq := if s.sr.getLsbD 0 = true ∧ (nextSample s - s.t0).toNat < s.params.busyTimeoutMs.toNat
      then .pSr else .pCsh }) ∧
  (s.seq = .pCsh → s.sr.getLsbD 0 = true → exec i s = .next { s with
    csN := true, dev := s.dev.deselect, history := .cs true :: s.history, result := .busy, seq := .resp }) ∧
  (s.seq = .pCsh → s.sr.getLsbD 0 = false → exec i s = .next (ready { s with
    csN := true, dev := s.dev.deselect, history := .cs true :: s.history }))

/-- `exec i` performs each line of WREN_SEQ() (R170) at its phase. -/
def WrenPhases (i : Instr) (s : State) : Prop :=
  (s.seq = .eCsl → exec i s = .next { s with
    csN := false, dev := s.dev.select, history := .cs false :: s.history, seq := .eCmd }) ∧
  (s.seq = .eCmd → s.env.spiAck = true → exec i s = .next { (deviceByte 0x06#8 s).2 with
    history := .xfer8 0x06#8 (deviceByte 0x06#8 s).1 :: s.history, seq := .eCsh }) ∧
  (s.seq = .eCsh → exec i s = .next { s with
    csN := true, dev := s.dev.deselect, history := .cs true :: s.history, seq := .fCsl })

/-- `exec i` performs CS_ASSERT() and FRAME(cmd, a) (R110) at its phases; `after` is the successor by R51. -/
def FramePhases (i : Instr) (cmd : Byte) (a : Addr) (after : State → State) (s : State) : Prop :=
  (s.seq = .fCsl → exec i s = .next { s with
    csN := false, dev := s.dev.select, history := .cs false :: s.history, seq := .fW1 }) ∧
  (s.seq = .fW1 → s.env.spiAck = true → exec i s = .next
    { (deviceHalf (cmd ++ a.extractLsb' 16 8) s).2 with
      history := .xfer16 (cmd ++ a.extractLsb' 16 8) (deviceHalf (cmd ++ a.extractLsb' 16 8) s).1 :: s.history
      seq := .fW2 }) ∧
  (s.seq = .fW2 → s.env.spiAck = true → exec i s = .next (after
    { (deviceHalf (a.extractLsb' 0 16) s).2 with
      history := .xfer16 (a.extractLsb' 0 16) (deviceHalf (a.extractLsb' 0 16) s).1 :: s.history }))

/-- `exec i` closes the access in F_CSH and ends with OK (R180, R185, R210). -/
def CloseAndFinish (i : Instr) (s : State) : Prop :=
  s.seq = .fCsh → exec i s = .next { s with
    csN := true, dev := s.dev.deselect, history := .cs true :: s.history, result := .ok, seq := .resp }

/-- `exec i` emits the response in RESP (R130, R240, R241). -/
def RespPhase (i : Instr) (s : State) : Prop :=
  s.seq = .resp → exec i s = .next { s with
    resp := 0#16 ++ s.sr ++ s.cnt ++ (if s.result = .ok then s.rdata else 0#8) ++ 0#4 ++ s.result.code
    respValid := true
    seq := .idle
    history := .resp
      (0#16 ++ s.sr ++ s.cnt ++ (if s.result = .ok then s.rdata else 0#8) ++ 0#4 ++ s.result.code) :: s.history }

/-- `exec i` starts the operation in ACCEPT when R235 lets it: `init` = 1 and no bounds rejection. -/
def AcceptPhase (i : Instr) (outOfBounds : Prop) (dispatch : State → State) (s : State) : Prop :=
  s.seq = .accept → s.init = true → (s.params.boundsCheck = true → ¬outOfBounds) →
    exec i s = .next (dispatch s)

/-- What no operation but BEGIN writes, and what no operation writes: the configuration, the latched word, the
parameters, and what the host still has to present (R14, R31, R41, R43). -/
def SameConfiguration (s t : State) : Prop :=
  t.init = s.init ∧ t.csId = s.csId ∧ t.clkHz = s.clkHz ∧ t.cw = s.cw ∧ t.csOe = s.csOe ∧
  t.params = s.params ∧ t.env.cmds = s.env.cmds ∧ t.env.session = s.env.session ∧ t.env.rst = s.env.rst ∧
  t.env.poutReady = s.env.poutReady ∧ t.env.spiAck = s.env.spiAck

/-- The response registers change only in RESP (R32, R240). -/
def SameResponseButInResp (s t : State) : Prop :=
  s.seq ≠ .resp → t.resp = s.resp ∧ t.respValid = s.respValid

/-- From its ACCEPT step the command is only answered, in two steps, with this RESULT: nothing but the response
registers, the phase, the history and the model's own `result` changes (R127, R142, R143, R233). -/
def OnlyAnswered (code : BitVec 4) (s : State) : Prop :=
  ∃ t, Sys2Proof.core.run 2 s = .next t ∧
    t = { s with
      result := t.result, seq := .idle, respValid := true
      resp := 0#16 ++ s.sr ++ s.cnt ++ 0#8 ++ 0#4 ++ code
      history := .resp (0#16 ++ s.sr ++ s.cnt ++ 0#8 ++ 0#4 ++ code) :: s.history }

/-- The values R60 gives the registers and the output ports. -/
def HoldsResetValues (t : State) : Prop :=
  t.init = false ∧ t.csId = 0x00#8 ∧ t.clkHz = 0#32 ∧
  t.cw = 0#64 ∧ t.op = 0#4 ∧ t.addr = 0#24 ∧ t.arg = 0#24 ∧
  t.cur = 0#25 ∧ t.rem = 0#24 ∧ t.nb = 0#10 ∧ t.cnt = 0#24 ∧
  t.sr = 0x00#8 ∧ t.t0 = 0#32 ∧ t.el = 0#32 ∧ t.rdata = 0x00#8 ∧
  t.resp = 0#64 ∧ t.respValid = false ∧ t.csN = true ∧ t.csOe = false ∧ t.seq = .idle ∧
  outPorts t = {
    cmdReady := true, respValid := false, respWord := 0#64, pinReady := false, poutValid := false
    poutData := t.b, csN := true, csOe := false, csLine := 0x00#8, spiReq := false, spiW16 := false
    spiMosi := 0#16, spiCfg := false, spiHz := 0#32, spiMode := t.params.spiMode, spiMsbFirst := true }

/-- The registers of POLL (R150). -/
def SamePollRegisters (s t : State) : Prop :=
  t.t0 = s.t0 ∧ t.sr = s.sr ∧ t.el = s.el

/-- The registers of the array operations (R40). -/
def SameArrayRegisters (s t : State) : Prop :=
  t.cur = s.cur ∧ t.rem = s.rem ∧ t.nb = s.nb

/-- Every byte the device's array holds outside its write cycle in flight reads as before (R87); with no write
cycle in flight that is every byte. -/
def SameDeviceBytes (s t : State) : Prop :=
  (∀ a, (∀ c ∈ s.dev.pend, c.1 ≠ a) → t.dev.mem.read a = s.dev.mem.read a) ∧
  (s.dev.wip = false → ∀ a, t.dev.mem.read a = s.dev.mem.read a)

end Sys2Proof.Claims

open Sys2Proof.Claims

/-! Encoding. -/

/-- R100, R110, R120 to R125: no bit of an encoding is dropped. -/
def Obligations.DecodeOfEncodeIsTheInstruction : Prop :=
  ∀ i : Instr, i.wf = true → decode (encode i) = .ok i

/-- R120, R125, R127: a legal word is the encoding of what it decodes to, so every reserved bit of it is 0. -/
def Obligations.EncodeOfDecodeIsTheWord : Prop :=
  ∀ (c : CodeWord) (i : Instr), decode c = .ok i → encode i = c

/-- R125, R126: a host word is legal exactly when a row's mask and match say so. -/
def Obligations.LegalHostWordsAreTheTablesRows : Prop :=
  ∀ c : Word64, (∃ i, decode (.host c) = .ok i) ↔ hostWordLegal c = true

/-- The worked words of R129, one of each form, and the device codes of R100. -/
def Obligations.SpecExampleWordsDecode : Prop :=
  decode (.host 0x000000AB01234502#64) = .ok (.writeByte 0x012345#24 0xAB#8) ∧
  decode (.host 0x000F424000000301#64) = .ok (.begin 3#8 1000000#32) ∧
  decode (.host 0x0000025800019004#64) = .ok (.writeArray 400#24 600#24) ∧
  decode (.host 0x0000000001234503#64) = .ok (.readByte 0x012345#24) ∧
  decode (.host 0x0000002007FFF005#64) = .ok (.readArray 0x07FFF0#24 32#24) ∧
  decode (.host 0x0000000000000006#64) = .ok .waitReady ∧
  decode (.spi8 0x06#8) = .ok .wren ∧
  decode (.spi32 0x0201#16 0x2345#16) = .ok (.write 0x012345#24) ∧
  decode (.spi32 0x0307#16 0xFFFF#16) = .ok (.read 0x07FFFF#24)

/-- R78, R111: a frame's bytes in wire order, and its words' bits: for an address the device has, the five
reserved bits are 0; out of range the address bits go unchanged. -/
def Obligations.FramesOnTheWire : Prop :=
  ∀ a : Addr,
    wireBytes (encode (.read a)) =
      [0x03#8, a.extractLsb' 16 8, a.extractLsb' 8 8, a.extractLsb' 0 8] ∧
    wireBytes (encode (.write a)) =
      [0x02#8, a.extractLsb' 16 8, a.extractLsb' 8 8, a.extractLsb' 0 8] ∧
    ∃ r w : Half, encode (.read a) = .spi32 r (a.extractLsb' 0 16) ∧
      encode (.write a) = .spi32 w (a.extractLsb' 0 16) ∧
      r.extractLsb' 3 5 = a.extractLsb' 19 5 ∧ w.extractLsb' 3 5 = a.extractLsb' 19 5 ∧
      r.extractLsb' 0 3 = a.extractLsb' 16 3 ∧ w.extractLsb' 0 3 = a.extractLsb' 16 3 ∧
      (a.toNat < 524288 → r = 0x03#8 ++ 0#5 ++ a.extractLsb' 16 3 ∧ w = 0x02#8 ++ 0#5 ++ a.extractLsb' 16 3)

/-- R129: the word of every well-formed assembler line decodes to the instruction the line names. -/
def Obligations.AssembledLinesDecode : Prop :=
  ∀ l : AsmLine, l.wf = true → decode (.host (asmWord l)) = .ok (asmInstr l)

/-! Steps, acceptance, the end of an operation, reset. -/

/-- R50, R51: past acceptance a step is the next primitive of the latched command; at the model's own phases it is
that of the device instruction they stand for (log 12, log 13). -/
def Obligations.StepRunsTheDecodedInstruction : Prop :=
  ∀ (s : State) (i : Instr), s.env.rst = 0 →
    (s.seq ≠ .idle → isBare s.seq = false → decode (.host s.cw) = .ok i → step s = exec i s) ∧
    (s.seq = .wrdiCsl ∨ s.seq = .wrdiCmd ∨ s.seq = .wrdiCsh → step s = exec .wrdi s) ∧
    (s.seq = .wrsr → step s = exec .wrsr s)

/-- R50, R100: inside a command, at the phases of a device instruction's transaction, the step is that device
instruction's. -/
def Obligations.HostCommandsSendTheDeviceInstructions : Prop :=
  ∀ (s : State) (a : Addr) (v : Byte) (n : Len),
    (decode (.host s.cw) = .ok .waitReady → isPollPhase s.seq = true → exec .waitReady s = exec .rdsr s) ∧
    (decode (.host s.cw) = .ok (.writeByte a v) →
      (isPollPhase s.seq = true → exec (.writeByte a v) s = exec .rdsr s) ∧
      (isWrenPhase s.seq = true → exec (.writeByte a v) s = exec .wren s) ∧
      (isFramePhase s.seq = true ∨ s.seq = .dTx ∨ s.seq = .fCsh →
        exec (.writeByte a v) s = exec (.write a) s)) ∧
    (decode (.host s.cw) = .ok (.readByte a) →
      (isPollPhase s.seq = true → exec (.readByte a) s = exec .rdsr s) ∧
      (isFramePhase s.seq = true ∨ s.seq = .dRx ∨ s.seq = .fCsh →
        exec (.readByte a) s = exec (.read a) s)) ∧
    (decode (.host s.cw) = .ok (.writeArray a n) →
      (isPollPhase s.seq = true → exec (.writeArray a n) s = exec .rdsr s) ∧
      (isWrenPhase s.seq = true → exec (.writeArray a n) s = exec .wren s) ∧
      (isFramePhase s.seq = true ∨ s.seq = .dPop ∨ s.seq = .dTx ∨ s.seq = .fCsh →
        exec (.writeArray a n) s = exec (.write s.curAddr) s)) ∧
    (decode (.host s.cw) = .ok (.readArray a n) →
      (isPollPhase s.seq = true → exec (.readArray a n) s = exec .rdsr s) ∧
      (isFramePhase s.seq = true ∨ s.seq = .dRx ∨ s.seq = .dPush ∨ s.seq = .fCsh →
        exec (.readArray a n) s = exec (.read a) s))

/-- R43, R52: what taking a command writes, and the views of the latched word. -/
def Obligations.AcceptanceLatchesTheCommand : Prop :=
  ∀ (s : State) (w : Word64) (rest : List Word64), s.env.rst = 0 → s.seq = .idle → s.env.cmds = w :: rest →
    ∃ t, step s = .next t ∧
      t = { s with
        cw := w, cnt := 0#24, sr := 0#8, el := 0#32, rdata := 0#8, respValid := false, seq := .accept
        env := { s.env with cmds := rest } } ∧
      t.op = w.extractLsb' 0 4 ∧ t.addr = w.extractLsb' 8 24 ∧ t.arg = w.extractLsb' 32 24

/-- R31, R61, R260: a command is taken exactly in IDLE when one is presented; none is lost or overwritten. That a
reset step takes none, in IDLE too where `cmd_ready` = 1, is the model's choice (log 30). -/
def Obligations.CommandsAreTakenOnlyInIdle : Prop :=
  (∀ s : State, (outPorts s).cmdReady = true ↔ s.seq = .idle) ∧
  (∀ s : State, s.env.rst = 0 → s.seq = .idle → s.env.cmds ≠ [] →
    ∃ t, step s = .next t ∧ s.env.cmds = t.cw :: t.env.cmds) ∧
  (∀ s t : State, step s = .next t → (outPorts s).cmdReady = false → t.env.cmds = s.env.cmds) ∧
  (∀ s : State, s.env.rst ≠ 0 → ∃ t, step s = .next t ∧ t.env.cmds = s.env.cmds) ∧
  (∀ s t : State, step s = .next t → s.env.rst = 0 → (outPorts s).cmdReady = false → t.cw = s.cw)

/-- R235, R236: the checks of ACCEPT in their order, and the dispatch of R51. -/
def Obligations.AcceptChecksInOrder : Prop :=
  ∀ s : State, s.env.rst = 0 → s.seq = .accept →
    step s = .next
      (if hostWordLegal s.cw = false then { s with result := .rejIllegal, seq := .resp }
      else if s.op = 0x1#4 ∧ s.cw.extractLsb' 32 32 = 0#32 then { s with result := .rejIllegal, seq := .resp }
      else if s.op = 0x1#4 ∧ s.init = true then { s with result := .rejAlreadyInit, seq := .resp }
      else if s.op ≠ 0x1#4 ∧ s.init = false then { s with result := .rejNotInit, seq := .resp }
      else if s.params.boundsCheck = true ∧
          ((s.op = 0x2#4 ∨ s.op = 0x3#4) ∧ 524288 ≤ s.addr.toNat ∨
            s.op = 0x5#4 ∧ (524288 ≤ s.addr.toNat ∨ 524288 < s.addr.toNat + s.arg.toNat)) then
        { s with result := .outOfRange, seq := .resp }
      else if s.op = 0x1#4 then { s with seq := .bCscfg }
      else if s.op = 0x4#4 then { s with cur := s.addr.setWidth 25, rem := s.arg, seq := .aNext }
      else if s.op = 0x5#4 then { s with rem := s.arg, seq := .pT0 }
      else { s with seq := .pT0 })

/-- R130, R240, R241: RESP writes the response word, sets `resp_valid`, returns to IDLE and writes nothing else,
whatever word is latched. -/
def Obligations.RespStepWritesTheResponse : Prop :=
  ∀ s : State, s.env.rst = 0 → s.seq = .resp →
    ∃ t, step s = .next t ∧
      t = { s with resp := t.resp, respValid := true, seq := .idle, history := .resp t.resp :: s.history } ∧
      respResult t.resp = s.result.code ∧ respBytesDone t.resp = s.cnt ∧ respLastSr t.resp = s.sr ∧
      respRdata t.resp = (if s.result = .ok then s.rdata else 0x00#8) ∧ respReservedClear t.resp = true

/-- R127, R233: an illegal word is answered REJ_ILLEGAL by two steps that record only Resp and change no other
register (`result` is the model's own, log 8, and left open here). -/
def Obligations.IllegalWordIsOnlyAnswered : Prop :=
  ∀ s : State, s.env.rst = 0 → s.seq = .accept → hostWordLegal s.cw = false →
    OnlyAnswered 0x8#4 s

/-- R60, R260, R263: the register and port values of R60, in the initial state and after any step with `rst` = 1,
from any phase. `b` is the model's choice (log 7), and that reset keeps the history and records no event is too
(log 9). -/
def Obligations.ResetRestoresRegistersAndPorts : Prop :=
  (∀ s : State, s.env.rst ≠ 0 →
    ∃ t, step s = .next t ∧ HoldsResetValues t ∧ t.history = s.history ∧ t.params = s.params) ∧
  HoldsResetValues State.reset

/-- R61, R262: an engine reset leaves the device's array alone but for the pages that a WRITE it cut off names. -/
def Obligations.ResetTouchesOnlyCutPages : Prop :=
  ∀ s t : State, s.env.rst ≠ 0 → step s = .next t →
    (¬(s.dev.mode = .reference ∧ s.dev.sel = true ∧ s.dev.ins = Config.opWrite ∧ 4 ≤ s.dev.pos) →
      t.dev.mem = s.dev.mem) ∧
    (∀ x, x / 512 < s.dev.addr.toNat / 512 ∨
        (s.dev.addr.toNat + max s.dev.data.length 1 - 1) / 512 < x / 512 →
      t.dev.mem.read x = s.dev.mem.read x)

/-! BEGIN. -/

/-- R141: BEGIN's lines, each at its phase. -/
def Obligations.BeginPerformsItsPhases : Prop :=
  ∀ (csid : CsId) (hz : Hertz) (s : State),
    (s.seq = .accept → hz ≠ 0#32 → s.init = false → exec (.begin csid hz) s = .next { s with seq := .bCscfg }) ∧
    (s.seq = .bCscfg → exec (.begin csid hz) s = .next { s with
      csId := csid, clkHz := hz, csOe := true, history := .csCfg csid :: s.history, seq := .bCsh }) ∧
    (s.seq = .bCsh → exec (.begin csid hz) s = .next { s with
      csN := true, dev := s.dev.deselect, history := .cs true :: s.history, seq := .bSpicfg }) ∧
    (s.seq = .bSpicfg → exec (.begin csid hz) s = .next { s with
      init := true, env := { s.env with session := some (s.clkHz, s.params.spiMode) }
      history := .spiCfg s.clkHz s.params.spiMode :: s.history, result := .ok, seq := .resp }) ∧
    RespPhase (.begin csid hz) s

/-- R141: a whole BEGIN from its ACCEPT step to IDLE. -/
def Obligations.BeginConfiguresTheEngine : Prop :=
  ∀ (csid : CsId) (hz : Hertz) (s : State), s.env.rst = 0 → s.seq = .accept → hz ≠ 0#32 → s.init = false →
    s.cw = hz ++ 0#16 ++ csid ++ 0#4 ++ 0x1#4 → s.sr = 0#8 → s.cnt = 0#24 → s.rdata = 0#8 → s.dev.sel = false →
    Sys2Proof.core.run 5 s = .next { s with
      init := true, csId := csid, clkHz := hz, csOe := true, csN := true, result := .ok, resp := 0#64
      respValid := true, seq := .idle
      env := { s.env with session := some (hz, s.params.spiMode) }
      history := .resp 0#64 :: .spiCfg hz s.params.spiMode :: .cs true :: .csCfg csid :: s.history }

/-- R142, R143: a BEGIN with CLKHZ = 0, or with `init` = 1, is rejected and only answered; only reset clears
`init`. -/
def Obligations.RejectedBegins : Prop :=
  (∀ (csid : CsId) (s : State), s.env.rst = 0 → s.seq = .accept →
    s.cw = 0#32 ++ 0#16 ++ csid ++ 0#4 ++ 0x1#4 → OnlyAnswered 0x8#4 s) ∧
  (∀ (csid : CsId) (hz : Hertz) (s : State), s.env.rst = 0 → s.seq = .accept → hz ≠ 0#32 → s.init = true →
    s.cw = hz ++ 0#16 ++ csid ++ 0#4 ++ 0x1#4 → OnlyAnswered 0xA#4 s) ∧
  (∀ s t : State, s.env.rst = 0 → s.init = true → step s = .next t → t.init = true)

/-- R14, R41: the configuration registers are written only by a BEGIN that finds `init` = 0, so once until reset,
and no step changes a build-time parameter. -/
def Obligations.ConfigurationIsWrittenOnce : Prop :=
  (∀ s t : State, phaseOwned s = true → s.env.rst = 0 → step s = .next t →
    (s.init = true → t.csId = s.csId ∧ t.clkHz = s.clkHz ∧ t.csOe = s.csOe) ∧
    (t.csId ≠ s.csId ∨ t.clkHz ≠ s.clkHz → s.seq = .bCscfg ∧ s.init = false)) ∧
  (∀ s t : State, step s = .next t → t.params = s.params)

/-! The busy-poll. -/

/-- R103, R150: the device instruction RDSR inside the command that polls, with R51's successor by OP. -/
def Obligations.RdsrPerformsThePoll : Prop :=
  ∀ s : State,
    (s.op = 0x6#4 → PollPhases .rdsr (fun t => { t with result := .ok, seq := .resp }) s) ∧
    (s.op = 0x2#4 ∨ s.op = 0x4#4 → PollPhases .rdsr (fun t => { t with seq := .eCsl }) s) ∧
    (s.op = 0x3#4 ∨ s.op = 0x5#4 → PollPhases .rdsr (fun t => { t with seq := .fCsl }) s)

/-- R160: WAIT_READY's lines, each at its phase. -/
def Obligations.WaitReadyPerformsItsPhases : Prop :=
  ∀ s : State,
    AcceptPhase .waitReady False (fun t => { t with seq := .pT0 }) s ∧
    PollPhases .waitReady (fun t => { t with result := .ok, seq := .resp }) s ∧
    RespPhase .waitReady s

/-- R152: the poll's condition after each status byte, with the elapsed time a 32-bit modular difference. -/
def Obligations.PollContinuesOnWipAndTime : Prop :=
  ∀ s : State, s.env.rst = 0 → s.seq = .pTime → (∃ i, decode (.host s.cw) = .ok i) → isPollingOp s.op = true →
    ∃ t, step s = .next t ∧
      t.el.toNat = (t.env.now.toNat + (2 ^ 32 - s.t0.toNat)) % 2 ^ 32 ∧
      (t.seq = .pSr ↔ s.sr.getLsbD 0 = true ∧ t.el.toNat < s.params.busyTimeoutMs.toNat) ∧
      (t.seq = .pCsh ↔ ¬(s.sr.getLsbD 0 = true ∧ t.el.toNat < s.params.busyTimeoutMs.toNat))

/-- R26, R157, R272: a clock whose next `n` samples advance by at least BUSY_TIMEOUT_MS together, and by less than
2^32 since `t0`, ends the poll within `n` more status bytes, whatever the device answers. -/
def Obligations.PollEndsUnderAnAdvancingClock : Prop :=
  ∀ (s : State) (n : Nat), s.env.rst = 0 → s.seq = .pSr → (∃ i, decode (.host s.cw) = .ok i) → isPollingOp s.op = true →
    s.env.spiAck = true → s.params.wf = true →
    s.params.busyTimeoutMs.toNat ≤ (s.env.ticks.take n).sum →
    (s.env.now - s.t0).toNat + (s.env.ticks.take n).sum < 2 ^ 32 →
    ∃ k t, k ≤ 2 * n ∧ Sys2Proof.core.run k s = .next t ∧ t.seq = .pCsh ∧
      (t.sr.getLsbD 0 = false ∨ s.params.busyTimeoutMs.toNat ≤ t.el.toNat)

/-- R153, R183, R186, R231: a poll that ends with WIP set ends its operation: chip-select goes idle, then only
the BUSY response follows, with RDATA 0x00 and the status byte. -/
def Obligations.BusyEndsTheOperation : Prop :=
  ∀ s : State, s.env.rst = 0 → s.seq = .pCsh → (∃ i, decode (.host s.cw) = .ok i) → isPollingOp s.op = true →
    s.sr.getLsbD 0 = true →
    ∃ t, Sys2Proof.core.run 2 s = .next t ∧ t.seq = .idle ∧ t.csN = true ∧ t.respValid = true ∧
      t.history = .resp t.resp :: .cs true :: s.history ∧ respResult t.resp = 0x1#4 ∧
      respRdata t.resp = 0x00#8 ∧ respBytesDone t.resp = s.cnt ∧ respLastSr t.resp = s.sr ∧
      t.env.pin = s.env.pin ∧ t.dev.mem = s.dev.mem

/-- R112: the answers to instruction bytes, frame words and data bytes out leave no trace but in the history. -/
def Obligations.DiscardedAnswersLeaveNoTrace : Prop :=
  ∀ (i : Instr) (s t : State) (m m' : Half) (rest : List Half), s.dev.mode = .oracle →
    s.seq = .pCmd ∨ s.seq = .eCmd ∨ s.seq = .wrdiCmd ∨ s.seq = .fW1 ∨ s.seq = .fW2 ∨ s.seq = .dTx →
    exec i { s with env := { s.env with miso := m :: rest } } = .next t →
    ∃ t', exec i { s with env := { s.env with miso := m' :: rest } } = .next t' ∧
      { t' with history := t.history } = t

/-! The device instructions. -/

/-- R101: the WREN transaction, one byte. -/
def Obligations.WrenTransaction : Prop :=
  ∀ s : State, WrenPhases .wren s

/-- R102, R104: the two instructions no command sends. The WRDI transaction is one byte; where its end goes is the
model's choice (log 12). WRSR has no semantics, so it is refused in every state. -/
def Obligations.WrdiTransactionAndWrsrRefusal : Prop :=
  ∀ s : State,
    (s.seq = .wrdiCsl → exec .wrdi s = .next { s with
      csN := false, dev := s.dev.select, history := .cs false :: s.history, seq := .wrdiCmd }) ∧
    (s.seq = .wrdiCmd → s.env.spiAck = true → exec .wrdi s = .next { (deviceByte 0x04#8 s).2 with
      history := .xfer8 0x04#8 (deviceByte 0x04#8 s).1 :: s.history, seq := .wrdiCsh }) ∧
    (s.seq = .wrdiCsh → exec .wrdi s = .next { s with
      csN := true, dev := s.dev.deselect, history := .cs true :: s.history, seq := .idle }) ∧
    exec .wrsr s = .refused .wrsrNoSemantics

/-- R53, R272: under the three duties every operation that has started ends, in IDLE with its response, whatever the
device answers and however the other agents change what they present. The form of a run is the model's (log 25). -/
def Obligations.EveryOperationEndsUnderTheDuties : Prop :=
  ∀ r : Nat → State, AgentsRun r → PlatformDuties r → (r 0).seq = .accept →
    ∃ k h, (r k).seq = .idle ∧ (r k).respValid = true ∧ (r k).history = .resp (r k).resp :: h

/-- R105: the READ transaction inside READ_BYTE (OP 3) and READ_ARRAY (OP 5). -/
def Obligations.ReadTransaction : Prop :=
  ∀ (a : Addr) (s : State),
    (s.op = 0x3#4 →
      FramePhases (.read a) 0x03#8 a (fun t => { t with seq := .dRx }) s ∧
      (s.seq = .dRx → s.env.spiAck = true → exec (.read a) s = .next { (deviceByte 0x00#8 s).2 with
        history := .xfer8 0x00#8 (deviceByte 0x00#8 s).1 :: s.history
        b := (deviceByte 0x00#8 s).1, rdata := (deviceByte 0x00#8 s).1, cnt := 1#24, seq := .fCsh }) ∧
      CloseAndFinish (.read a) s) ∧
    (s.op = 0x5#4 →
      FramePhases (.read a) 0x03#8 a (fun t => { t with seq := if t.rem = 0#24 then .fCsh else .dRx }) s ∧
      (s.seq = .dRx → s.env.spiAck = true → exec (.read a) s = .next { (deviceByte 0x00#8 s).2 with
        history := .xfer8 0x00#8 (deviceByte 0x00#8 s).1 :: s.history
        b := (deviceByte 0x00#8 s).1, seq := .dPush }) ∧
      (s.seq = .dPush → s.env.poutReady = true → exec (.read a) s = .next { s with
        history := .push s.b :: s.history, rem := s.rem - 1#24, cnt := s.cnt + 1#24
        seq := if s.rem - 1#24 = 0#24 then .fCsh else .dRx }) ∧
      CloseAndFinish (.read a) s)

/-- R107: the WRITE transaction inside WRITE_BYTE (OP 2) and WRITE_ARRAY (OP 4). -/
def Obligations.WriteTransaction : Prop :=
  ∀ (a : Addr) (s : State),
    (s.op = 0x2#4 →
      FramePhases (.write a) 0x02#8 a (fun t => { t with b := s.cw.extractLsb' 32 8, seq := .dTx }) s ∧
      (s.seq = .dTx → s.env.spiAck = true → exec (.write a) s = .next { (deviceByte s.b s).2 with
        history := .xfer8 s.b (deviceByte s.b s).1 :: s.history, cnt := 1#24, seq := .fCsh }) ∧
      CloseAndFinish (.write a) s) ∧
    (s.op = 0x4#4 →
      FramePhases (.write a) 0x02#8 a (fun t => { t with seq := .dPop }) s ∧
      (∀ v rest, s.seq = .dPop → s.env.pin = v :: rest → exec (.write a) s = .next { s with
        env := { s.env with pin := rest }, history := .pop v :: s.history, b := v, seq := .dTx }) ∧
      (s.seq = .dTx → s.env.spiAck = true → exec (.write a) s = .next { (deviceByte s.b s).2 with
        history := .xfer8 s.b (deviceByte s.b s).1 :: s.history
        cur := s.cur + 1#25, rem := s.rem - 1#24, nb := s.nb - 1#10, cnt := s.cnt + 1#24
        seq := if s.nb - 1#10 = 0#10 then .fCsh else .dPop }) ∧
      (s.seq = .fCsh → exec (.write a) s = .next { s with
        csN := true, dev := s.dev.deselect, history := .cs true :: s.history, seq := .aNext }))

/-! Byte operations. -/

/-- R180: WRITE_BYTE's lines, each at its phase. -/
def Obligations.WriteBytePerformsItsPhases : Prop :=
  ∀ (a : Addr) (v : Byte) (s : State),
    AcceptPhase (.writeByte a v) (524288 ≤ a.toNat) (fun t => { t with seq := .pT0 }) s ∧
    PollPhases (.writeByte a v) (fun t => { t with seq := .eCsl }) s ∧
    WrenPhases (.writeByte a v) s ∧
    FramePhases (.writeByte a v) 0x02#8 a (fun t => { t with b := v, seq := .dTx }) s ∧
    (s.seq = .dTx → s.env.spiAck = true → exec (.writeByte a v) s = .next { (deviceByte s.b s).2 with
      history := .xfer8 s.b (deviceByte s.b s).1 :: s.history, cnt := 1#24, seq := .fCsh }) ∧
    CloseAndFinish (.writeByte a v) s ∧ RespPhase (.writeByte a v) s

/-- R185: READ_BYTE's lines, each at its phase; the byte is whatever the device answers (R25, R187). -/
def Obligations.ReadBytePerformsItsPhases : Prop :=
  ∀ (a : Addr) (s : State),
    AcceptPhase (.readByte a) (524288 ≤ a.toNat) (fun t => { t with seq := .pT0 }) s ∧
    PollPhases (.readByte a) (fun t => { t with seq := .fCsl }) s ∧
    FramePhases (.readByte a) 0x03#8 a (fun t => { t with seq := .dRx }) s ∧
    (s.seq = .dRx → s.env.spiAck = true → exec (.readByte a) s = .next { (deviceByte 0x00#8 s).2 with
      history := .xfer8 0x00#8 (deviceByte 0x00#8 s).1 :: s.history
      b := (deviceByte 0x00#8 s).1, rdata := (deviceByte 0x00#8 s).1, cnt := 1#24, seq := .fCsh }) ∧
    CloseAndFinish (.readByte a) s ∧ RespPhase (.readByte a) s

/-- R180 against the reference device (R85 to R90; its status byte is log 19's, PRESUMED): a whole WRITE_BYTE to a ready device sends exactly the spec's
events, answers OK with one byte done, and starts the device's write cycle for that one byte. -/
def Obligations.WriteByteRunStartsTheWriteCycle : Prop :=
  ∀ (s : State) (a : Addr) (v : Byte), s.env.rst = 0 → s.seq = .accept →
    s.cw = 0#8 ++ (0#16 ++ v) ++ a ++ 0#4 ++ 0x2#4 → s.init = true → s.env.spiAck = true →
    s.dev.mode = .reference → s.dev.wip = false → a.toNat < 524288 →
    ∃ t, Sys2Proof.core.run 16 s = .next t ∧ t.seq = .idle ∧ t.csN = true ∧ t.respValid = true ∧
      respResult t.resp = 0x0#4 ∧ respBytesDone t.resp = 1#24 ∧ respLastSr t.resp = s.dev.statusByte ∧
      t.dev = { s.dev.closed with wel := true, wip := true, pend := [(a.toNat, v)], k := s.dev.w } ∧
      t.history.map Event.sent =
        [ .resp t.resp, .cs true, .xfer8 v 0#8, .xfer16 (a.extractLsb' 0 16) 0#16,
          .xfer16 (0x02#8 ++ a.extractLsb' 16 8) 0#16, .cs false, .cs true, .xfer8 0x06#8 0#8, .cs false,
          .cs true, .time 0#32, .xfer8 0x00#8 0#8, .xfer8 0x05#8 0#8, .cs false, .time 0#32 ] ++
        s.history.map Event.sent

/-- R185 against the reference device: a whole READ_BYTE of a ready device returns the byte its array holds, sends
no WREN, and changes no byte. -/
def Obligations.ReadByteRunReturnsTheDeviceByte : Prop :=
  ∀ (s : State) (a : Addr), s.env.rst = 0 → s.seq = .accept →
    s.cw = 0#8 ++ 0#24 ++ a ++ 0#4 ++ 0x3#4 → s.init = true → s.env.spiAck = true →
    s.dev.mode = .reference → s.dev.wip = false → a.toNat < 524288 →
    ∃ t, Sys2Proof.core.run 13 s = .next t ∧ t.seq = .idle ∧ t.csN = true ∧ t.respValid = true ∧
      respResult t.resp = 0x0#4 ∧ respBytesDone t.resp = 1#24 ∧
      respRdata t.resp = s.dev.mem.read a.toNat ∧ t.rdata = s.dev.mem.read a.toNat ∧
      t.dev = s.dev.closed ∧
      t.history.map Event.sent =
        [ .resp t.resp, .cs true, .xfer8 0x00#8 0#8, .xfer16 (a.extractLsb' 0 16) 0#16,
          .xfer16 (0x03#8 ++ a.extractLsb' 16 8) 0#16, .cs false, .cs true, .time 0#32, .xfer8 0x00#8 0#8,
          .xfer8 0x05#8 0#8, .cs false, .time 0#32 ] ++
        s.history.map Event.sent

/-! Array operations. -/

/-- R200: WRITE_ARRAY's lines, each at its phase. -/
def Obligations.WriteArrayPerformsItsPhases : Prop :=
  ∀ (a : Addr) (n : Len) (s : State),
    AcceptPhase (.writeArray a n) False (fun t => { t with cur := a.setWidth 25, rem := n, seq := .aNext }) s ∧
    PollPhases (.writeArray a n) (fun t => { t with seq := .eCsl }) s ∧
    WrenPhases (.writeArray a n) s ∧
    FramePhases (.writeArray a n) 0x02#8 (s.cur.extractLsb' 0 24) (fun t => { t with seq := .dPop }) s ∧
    (∀ v rest, s.seq = .dPop → s.env.pin = v :: rest → exec (.writeArray a n) s = .next { s with
      env := { s.env with pin := rest }, history := .pop v :: s.history, b := v, seq := .dTx }) ∧
    (s.seq = .dTx → s.env.spiAck = true → exec (.writeArray a n) s = .next { (deviceByte s.b s).2 with
      history := .xfer8 s.b (deviceByte s.b s).1 :: s.history
      cur := s.cur + 1#25, rem := s.rem - 1#24, nb := s.nb - 1#10, cnt := s.cnt + 1#24
      seq := if s.nb - 1#10 = 0#10 then .fCsh else .dPop }) ∧
    (s.seq = .fCsh → exec (.writeArray a n) s = .next { s with
      csN := true, dev := s.dev.deselect, history := .cs true :: s.history, seq := .aNext }) ∧
    RespPhase (.writeArray a n) s

/-- R203: the three outcomes of A_NEXT, none with an event, and the two steps it follows. -/
def Obligations.PageAdvanceOutcomes : Prop :=
  (∀ (a : Addr) (n : Len) (s : State), s.seq = .aNext →
    (s.rem = 0#24 → exec (.writeArray a n) s = .next { s with result := .ok, seq := .resp }) ∧
    (s.rem ≠ 0#24 → 1024 ≤ s.cur.toNat / 512 →
      exec (.writeArray a n) s = .next { s with result := .outOfRange, seq := .resp }) ∧
    (s.rem ≠ 0#24 → s.cur.toNat / 512 < 1024 →
      ∃ t, exec (.writeArray a n) s = .next t ∧ t = { s with nb := t.nb, seq := .pT0 } ∧
        t.nb.toNat = min (512 - s.cur.toNat % 512) s.rem.toNat ∧ 1 ≤ t.nb.toNat ∧ t.nb.toNat ≤ 512)) ∧
  (∀ s t : State, step s = .next t → t.seq = .aNext →
    (s.seq = .accept ∨ s.seq = .fCsh) ∧ ∃ a n, decode (.host s.cw) = .ok (.writeArray a n)) ∧
  (∀ (a : Addr) (n : Len) (s t : State), exec (.writeArray a n) s = .next t → s.seq = .fCsh → t.seq = .aNext)

/-- R208: WRITE_ARRAY with LEN = 0 answers OK after three steps, with no poll, no SPI transaction and no POP,
for every address. -/
def Obligations.EmptyWriteArrayDoesNothing : Prop :=
  ∀ (a : Addr) (s : State), s.env.rst = 0 → s.seq = .accept → s.init = true → s.cnt = 0#24 →
    s.cw = 0#8 ++ 0#24 ++ a ++ 0#4 ++ 0x4#4 →
    ∃ t, Sys2Proof.core.run 3 s = .next t ∧ t.seq = .idle ∧ t.history = .resp t.resp :: s.history ∧
      respResult t.resp = 0x0#4 ∧ respBytesDone t.resp = 0#24 ∧ t.env = s.env ∧ t.dev = s.dev ∧ t.csN = s.csN

/-- R204: one whole burst of WRITE_ARRAY to a device whose first status byte has WIP = 0: its exact events, and
the cursor and the counts after it. -/
def Obligations.OneBurstPerPage : Prop :=
  ∀ (s : State) (a : Addr) (n : Len) (bytes rest : List Byte) (m st : Half) (more : List Half),
    s.env.rst = 0 → decode (.host s.cw) = .ok (.writeArray a n) → s.seq = .aNext → s.rem ≠ 0#24 →
    s.cur.toNat / 512 < 1024 → s.env.spiAck = true → s.dev.mode = .oracle →
    s.env.miso = m :: st :: more → st.getLsbD 0 = false →
    bytes.length = min (512 - s.cur.toNat % 512) s.rem.toNat → s.env.pin = bytes ++ rest →
    ∃ t, Sys2Proof.core.run (14 + 2 * bytes.length) s = .next t ∧ t.seq = .aNext ∧ t.csN = true ∧
      t.cur = s.cur + BitVec.ofNat 25 bytes.length ∧ t.rem = s.rem - BitVec.ofNat 24 bytes.length ∧
      t.nb = 0#10 ∧ t.cnt = s.cnt + BitVec.ofNat 24 bytes.length ∧ t.env.pin = rest ∧
      (t.cur.toNat % 512 = 0 ∨ t.rem = 0#24) ∧
      t.history.map Event.sent =
        .cs true :: (bytes.reverse.flatMap (fun b => [.xfer8 b 0#8, .pop b]) ++
        [ .xfer16 (s.cur.extractLsb' 0 16) 0#16, .xfer16 (0x02#8 ++ s.cur.extractLsb' 16 8) 0#16, .cs false,
          .cs true, .xfer8 0x06#8 0#8, .cs false, .cs true, .time 0#32, .xfer8 0x00#8 0#8, .xfer8 0x05#8 0#8,
          .cs false, .time 0#32 ] ++
        s.history.map Event.sent)

/-- R200, R207: a whole WRITE_ARRAY inside the device, to a device that is always ready and with the payload
offered, ends with OK, all bytes done and exactly LEN payload bytes consumed. -/
def Obligations.WriteArrayRunsToOk : Prop :=
  ∀ (s : State) (a : Addr) (n : Len), s.env.rst = 0 → s.seq = .accept → s.init = true → s.cnt = 0#24 →
    s.cw = 0#8 ++ n ++ a ++ 0#4 ++ 0x4#4 → s.env.spiAck = true → s.dev.mode = .oracle →
    (∀ m ∈ s.env.miso, m.getLsbD 0 = false) → 6 * n.toNat ≤ s.env.miso.length →
    n.toNat ≤ s.env.pin.length → a.toNat + n.toNat ≤ 524288 →
    ∃ k t, Sys2Proof.core.run k s = .next t ∧ t.seq = .idle ∧ t.respValid = true ∧
      respResult t.resp = 0x0#4 ∧ respBytesDone t.resp = n ∧
      t.env.pin = s.env.pin.drop n.toNat ∧ t.cur.toNat = a.toNat + n.toNat

/-- R210: READ_ARRAY's lines, each at its phase. -/
def Obligations.ReadArrayPerformsItsPhases : Prop :=
  ∀ (a : Addr) (n : Len) (s : State),
    AcceptPhase (.readArray a n) (524288 ≤ a.toNat ∨ 524288 < a.toNat + n.toNat)
      (fun t => { t with rem := n, seq := .pT0 }) s ∧
    PollPhases (.readArray a n) (fun t => { t with seq := .fCsl }) s ∧
    FramePhases (.readArray a n) 0x03#8 a
      (fun t => { t with seq := if t.rem = 0#24 then .fCsh else .dRx }) s ∧
    (s.seq = .dRx → s.env.spiAck = true → exec (.readArray a n) s = .next { (deviceByte 0x00#8 s).2 with
      history := .xfer8 0x00#8 (deviceByte 0x00#8 s).1 :: s.history
      b := (deviceByte 0x00#8 s).1, seq := .dPush }) ∧
    (s.seq = .dPush → s.env.poutReady = true → exec (.readArray a n) s = .next { s with
      history := .push s.b :: s.history, rem := s.rem - 1#24, cnt := s.cnt + 1#24
      seq := if s.rem - 1#24 = 0#24 then .fCsh else .dRx }) ∧
    CloseAndFinish (.readArray a n) s ∧ RespPhase (.readArray a n) s

/-- R212: a whole READ_ARRAY with LEN = 0 runs its poll and, when the status byte has WIP = 0, sends the READ frame
with no data byte, then answers OK. -/
def Obligations.EmptyReadArraySendsTheFrame : Prop :=
  ∀ (a : Addr) (s : State) (m st : Half) (more : List Half), s.env.rst = 0 → s.seq = .accept → s.init = true →
    s.cnt = 0#24 → s.cw = 0#8 ++ 0#24 ++ a ++ 0#4 ++ 0x5#4 → (s.params.boundsCheck = true → a.toNat < 524288) →
    s.env.spiAck = true → s.dev.mode = .oracle → s.env.miso = m :: st :: more → st.getLsbD 0 = false →
    ∃ t, Sys2Proof.core.run 12 s = .next t ∧ t.seq = .idle ∧ t.csN = true ∧ t.respValid = true ∧
      respResult t.resp = 0x0#4 ∧ respBytesDone t.resp = 0#24 ∧ t.env.pin = s.env.pin ∧
      t.history.map Event.sent =
        [ .resp t.resp, .cs true, .xfer16 (a.extractLsb' 0 16) 0#16,
          .xfer16 (0x03#8 ++ a.extractLsb' 16 8) 0#16, .cs false, .cs true, .time 0#32, .xfer8 0x00#8 0#8,
          .xfer8 0x05#8 0#8, .cs false, .time 0#32 ] ++ s.history.map Event.sent

/-- R210 against the reference device: a whole READ_ARRAY inside the device hands over exactly the bytes its array
holds, in order, and changes none. -/
def Obligations.ReadArrayRunPushesTheDeviceBytes : Prop :=
  ∀ (s : State) (a : Addr) (n : Len), s.env.rst = 0 → s.seq = .accept → s.init = true → s.cnt = 0#24 →
    s.cw = 0#8 ++ n ++ a ++ 0#4 ++ 0x5#4 → s.env.spiAck = true → s.env.poutReady = true →
    s.dev.mode = .reference → s.dev.wip = false → a.toNat < 524288 → a.toNat + n.toNat ≤ 524288 →
    ∃ t, Sys2Proof.core.run (12 + 2 * n.toNat) s = .next t ∧ t.seq = .idle ∧ t.csN = true ∧
      t.respValid = true ∧ respResult t.resp = 0x0#4 ∧ respBytesDone t.resp = n ∧ t.dev = s.dev.closed ∧
      t.history.filterMap pushedByte =
        (s.dev.mem.readBytes a.toNat n.toNat).reverse ++ s.history.filterMap pushedByte

/-! The reference device. -/

/-- R87 to R90, R96: a WRITE burst inside one page, then the status reads that end its write cycle, then a READ:
the READ answers the bytes written, and no other byte of the array has changed. -/
def Obligations.ReadBackAfterTheWriteCycle : Prop :=
  ∀ (d : Device) (a : Addr) (vs : List Byte) (k : Nat), d.mode = .reference → d.wip = false → d.wel = true →
    d.w = .reads k → 1 ≤ k → d.mem.wf = true → vs ≠ [] → a.toNat < 524288 →
    a.toNat % 512 + vs.length ≤ 512 →
    ∀ d1 d2 : Device,
      d1 = (d.transact (wireBytes (encode (.write a)) ++ vs)).2 →
      d2 = (d1.transact (0x05#8 :: List.replicate k 0x00#8)).2 →
      d1.wip = true ∧ d2.wip = false ∧ d2.wel = false ∧ d2.faults = d.faults ∧
      (d2.transact (wireBytes (encode (.read a)) ++ List.replicate vs.length 0x00#8)).1.drop 4 =
        vs.map Answer.byte ∧
      (∀ x, x < a.toNat ∨ a.toNat + vs.length ≤ x → d2.mem.read x = d.mem.read x)

/-- R88: WREN sets the write-enable latch and WRDI clears it, at the end of a one-byte transaction. -/
def Obligations.WriteEnableLatch : Prop :=
  ∀ d : Device, d.mode = .reference →
    (d.transact [0x06#8]).2 = { d.closed with wel := true } ∧
    (d.transact [0x04#8]).2 = { d.closed with wel := false }

/-! What an instruction leaves unchanged. -/

/-- R141: BEGIN writes none of the working registers and no byte of the device. -/
def Obligations.BeginFrame : Prop :=
  ∀ (csid : CsId) (hz : Hertz) (s t : State), exec (.begin csid hz) s = .next t →
    t.cw = s.cw ∧ t.cnt = s.cnt ∧ t.rdata = s.rdata ∧ t.b = s.b ∧ t.params = s.params ∧
    t.env.cmds = s.env.cmds ∧ t.env.pin = s.env.pin ∧ t.env.rst = s.env.rst ∧
    SamePollRegisters s t ∧ SameArrayRegisters s t ∧ SameResponseButInResp s t ∧
    (∀ a, t.dev.mem.read a = s.dev.mem.read a)

/-- R150, R159, R160: WAIT_READY and RDSR write only the poll's registers, chip-select, the phase and the
response; a poll moves no data, and inside its RDSR transaction sets no write-enable latch. -/
def Obligations.PollFrame : Prop :=
  ∀ (i : Instr) (s t : State), i = .waitReady ∨ i = .rdsr → exec i s = .next t →
    SameConfiguration s t ∧ SameArrayRegisters s t ∧ SameResponseButInResp s t ∧ t.cnt = s.cnt ∧
    t.rdata = s.rdata ∧ t.b = s.b ∧ t.env.pin = s.env.pin ∧ SameDeviceBytes s t ∧
    ((s.dev.sel = true → 0 < s.dev.pos → s.dev.ins = 0x05#8) → t.dev.wel = true → s.dev.wel = true)

/-- R180, R185: WRITE_BYTE and READ_BYTE write no array register and take no payload byte; WRITE_BYTE leaves
`rdata`. -/
def Obligations.ByteCommandFrame : Prop :=
  (∀ (a : Addr) (v : Byte) (s t : State), exec (.writeByte a v) s = .next t →
    SameConfiguration s t ∧ SameArrayRegisters s t ∧ SameResponseButInResp s t ∧ t.rdata = s.rdata ∧
    t.env.pin = s.env.pin ∧ (isPollPhase s.seq = false → SamePollRegisters s t) ∧ SameDeviceBytes s t) ∧
  (∀ (a : Addr) (s t : State), exec (.readByte a) s = .next t →
    SameConfiguration s t ∧ SameArrayRegisters s t ∧ SameResponseButInResp s t ∧
    t.env.pin = s.env.pin ∧ (isPollPhase s.seq = false → SamePollRegisters s t) ∧ SameDeviceBytes s t)

/-- R200, R210: WRITE_ARRAY leaves `rdata`; READ_ARRAY leaves `rdata`, `cur`, `nb` and the payload stream. -/
def Obligations.ArrayCommandFrame : Prop :=
  (∀ (a : Addr) (n : Len) (s t : State), exec (.writeArray a n) s = .next t →
    SameConfiguration s t ∧ SameResponseButInResp s t ∧ t.rdata = s.rdata ∧
    (isPollPhase s.seq = false → SamePollRegisters s t) ∧ SameDeviceBytes s t) ∧
  (∀ (a : Addr) (n : Len) (s t : State), exec (.readArray a n) s = .next t →
    SameConfiguration s t ∧ SameResponseButInResp s t ∧ t.rdata = s.rdata ∧ t.cur = s.cur ∧ t.nb = s.nb ∧
    t.env.pin = s.env.pin ∧ (isPollPhase s.seq = false → SamePollRegisters s t) ∧ SameDeviceBytes s t)

/-- R101, R102, R105, R107: the device instructions write no configuration, no poll register and no response. -/
def Obligations.DeviceInstructionFrame : Prop :=
  ∀ (i : Instr) (s t : State),
    (i = .wren ∨ i = .wrdi ∨ (∃ a, i = .read a) ∨ ∃ a, i = .write a) → exec i s = .next t →
    SameConfiguration s t ∧ SamePollRegisters s t ∧ t.resp = s.resp ∧ t.respValid = s.respValid ∧
    (i = .wren ∨ i = .wrdi → SameArrayRegisters s t ∧ t.cnt = s.cnt ∧ t.rdata = s.rdata ∧ t.b = s.b ∧
      t.env.pin = s.env.pin) ∧
    ((∃ a, i = .write a) → t.rdata = s.rdata) ∧
    ((∃ a, i = .read a) → t.cur = s.cur ∧ t.nb = s.nb ∧ t.env.pin = s.env.pin) ∧
    SameDeviceBytes s t

/-- R37, R247: the clock is sampled only in POLL's two NOW() steps. -/
def Obligations.ClockIsReadOnlyInPoll : Prop :=
  ∀ s t : State, step s = .next t → s.seq ≠ .pT0 → s.seq ≠ .pTime →
    t.env.now = s.env.now ∧ t.env.ticks = s.env.ticks ∧ (s.env.rst = 0 → t.t0 = s.t0)

/-! The whole machine. -/

/-- R24, R52: every step records exactly one event, but acceptance, ACCEPT, A_NEXT and reset, which record none. -/
def Obligations.HistoryGrowsByOneEvent : Prop :=
  ∀ s t : State, step s = .next t →
    (s.env.rst ≠ 0 ∨ s.seq = .idle ∨ s.seq = .accept ∨ s.seq = .aNext → t.history = s.history) ∧
    (s.env.rst = 0 → s.seq ≠ .idle → s.seq ≠ .accept → s.seq ≠ .aNext → ∃ e, t.history = e :: s.history)

/-- R20, R35: an SPI step records the exchange its request ports show, and no other step records one. -/
def Obligations.ExchangesMatchTheRequestPorts : Prop :=
  ∀ s t : State, phaseOwned s = true → s.env.rst = 0 → step s = .next t →
    ((outPorts s).spiReq = true → (outPorts s).spiW16 = false →
      ∃ v m, (outPorts s).spiMosi = v.setWidth 16 ∧ t.history = .xfer8 v m :: s.history) ∧
    ((outPorts s).spiReq = true → (outPorts s).spiW16 = true →
      ∃ m, t.history = .xfer16 (outPorts s).spiMosi m :: s.history) ∧
    ((outPorts s).spiReq = false →
      (∀ v m, t.history ≠ .xfer8 v m :: s.history) ∧ ∀ w m, t.history ≠ .xfer16 w m :: s.history)

/-- R27, R28, R53: with its phase its own command's, the engine has a step exactly when it waits for no partner;
when it waits, the stop names the partner. -/
def Obligations.EngineStopsExactlyWhenItWaits : Prop :=
  ∀ s : State, phaseOwned s = true → s.env.rst = 0 →
    (waits s = false → ∃ t, step s = .next t) ∧ (waits s = true → step s = .fault (waitFault s))

/-- R54, R242: chip-select is low exactly inside a transaction, kept by every step. -/
def Obligations.ChipSelectInvariantKept : Prop :=
  ∀ s t : State, ChipSelectInv s → step s = .next t → ChipSelectInv t

/-- R42, R51, R96, R133, R134, R141, R203 to R205, R231: the engine's invariant is kept by every step. -/
def Obligations.EngineInvariantKept : Prop :=
  ∀ s t : State, EngineInv s → step s = .next t → EngineInv t

/-- R108, R173: no step sends an instruction byte other than 0x06, 0x05, 0x03 and 0x02. -/
def Obligations.OnlyFourCodesAreSent : Prop :=
  ∀ s t : State, CodesInv s → step s = .next t → CodesInv t

/-- R171: every WRITE frame follows a WREN transaction that follows a poll whose last status byte has WIP = 0. -/
def Obligations.EveryWriteIsArmed : Prop :=
  ∀ s t : State, ArmedInv s → step s = .next t → ArmedInv t

/-- The device's memory keeps its canonical form. The form is the model's own choice (log 10), not a rule of the
spec. -/
def Obligations.MemoryStaysCanonical : Prop :=
  ∀ s t : State, MemoryInv s → step s = .next t → MemoryInv t

/-- R135: the response word's reserved bits are always 0. -/
def Obligations.ReservedResponseBitsStayZero : Prop :=
  ResponseInv State.reset ∧ ∀ s t : State, ResponseInv s → step s = .next t → ResponseInv t

/-- The invariants hold in the initial state. The clauses about the history and the device's memory rest on the
model's choices for them: the empty history of log 9, the memory form and the initial device of logs 10 and 11. -/
def Obligations.InvariantsHoldAtReset : Prop :=
  ChipSelectInv State.reset ∧ EngineInv State.reset ∧ CodesInv State.reset ∧ ArmedInv State.reset ∧
  MemoryInv State.reset
end

