-- ==== Sys2Proof/Laws/Decode.lean ====
section
/-! SUPPORT. What a legal host command word is, operand by operand (R120 to R125). -/

namespace Sys2Proof

/-- A legal command word's OP and operands (R121 to R125). -/
theorem decode_host_cases {c : Word64} {i : Instr} (h : decode (.host c) = .ok i) :
    (fieldOp c = 0x1#4 ∧ i = .begin (fieldCsid c) (fieldClkhz c)) ∨
    (fieldOp c = 0x2#4 ∧ i = .writeByte (fieldAddr c) (fieldData c)) ∨
    (fieldOp c = 0x3#4 ∧ i = .readByte (fieldAddr c)) ∨
    (fieldOp c = 0x4#4 ∧ i = .writeArray (fieldAddr c) (fieldArg c)) ∨
    (fieldOp c = 0x5#4 ∧ i = .readArray (fieldAddr c) (fieldArg c)) ∨
    (fieldOp c = 0x6#4 ∧ i = .waitReady) := by
  simp only [decode, decodeHost] at h
  split_ifs at h with h1 _ h2 _ h3 _ h4 _ h5 _ h6 _ <;> cases h <;> simp [*]

/-- No host word decodes to a device instruction. -/
theorem decode_host_ne_device {c : Word64} {i : Instr} (h : decode (.host c) = .ok i) :
    i ≠ .wren ∧ i ≠ .wrdi ∧ i ≠ .rdsr ∧ i ≠ .wrsr ∧ (∀ a, i ≠ .read a) ∧ ∀ a, i ≠ .write a := by
  rcases decode_host_cases h with ⟨-, rfl⟩ | ⟨-, rfl⟩ | ⟨-, rfl⟩ | ⟨-, rfl⟩ | ⟨-, rfl⟩ | ⟨-, rfl⟩ <;> simp

/-! A word as a number, and its fields. -/

theorem toNat_append_eq {m n : Nat} (x : BitVec m) (y : BitVec n) :
    (x ++ y).toNat = x.toNat * 2 ^ n + y.toNat := by
  rw [BitVec.toNat_append, ← Nat.shiftLeft_add_eq_or_of_lt y.isLt, Nat.shiftLeft_eq]

theorem toNat_extract {w : Nat} (x : BitVec w) (k n : Nat) :
    (x.extractLsb' k n).toNat = x.toNat / 2 ^ k % 2 ^ n := by
  rw [BitVec.extractLsb'_toNat, Nat.shiftRight_eq_div_pow]

theorem formatA_toNat (op : BitVec 4) (addr : Addr) (arg : Len) :
    (formatA op addr arg).toNat = arg.toNat * 2 ^ 32 + addr.toNat * 2 ^ 8 + op.toNat := by
  simp only [formatA, toNat_append_eq, BitVec.toNat_ofNat]
  omega

theorem formatB_toNat (op : BitVec 4) (csid : CsId) (clkhz : Hertz) :
    (formatB op csid clkhz).toNat = clkhz.toNat * 2 ^ 32 + csid.toNat * 2 ^ 8 + op.toNat := by
  simp only [formatB, toNat_append_eq, BitVec.toNat_ofNat]
  omega

theorem formatC_toNat (op : BitVec 4) : (formatC op).toNat = op.toNat := by
  simp only [formatC, toNat_append_eq, BitVec.toNat_ofNat]
  omega

@[simp] theorem fieldOp_formatA (op : BitVec 4) (addr : Addr) (arg : Len) :
    fieldOp (formatA op addr arg) = op := by
  apply BitVec.eq_of_toNat_eq
  have := op.isLt
  have := addr.isLt
  have := arg.isLt
  rw [fieldOp, toNat_extract, formatA_toNat]
  omega

@[simp] theorem fieldAddr_formatA (op : BitVec 4) (addr : Addr) (arg : Len) :
    fieldAddr (formatA op addr arg) = addr := by
  apply BitVec.eq_of_toNat_eq
  have := op.isLt
  have := addr.isLt
  have := arg.isLt
  rw [fieldAddr, toNat_extract, formatA_toNat]
  omega

@[simp] theorem fieldArg_formatA (op : BitVec 4) (addr : Addr) (arg : Len) :
    fieldArg (formatA op addr arg) = arg := by
  apply BitVec.eq_of_toNat_eq
  have := op.isLt
  have := addr.isLt
  have := arg.isLt
  rw [fieldArg, toNat_extract, formatA_toNat]
  omega

@[simp] theorem lowReservedClear_formatA (op : BitVec 4) (addr : Addr) (arg : Len) :
    lowReservedClear (formatA op addr arg) = true := by
  rw [lowReservedClear, beq_iff_eq]
  apply BitVec.eq_of_toNat_eq
  have := op.isLt
  have := addr.isLt
  have := arg.isLt
  rw [toNat_extract, formatA_toNat, BitVec.toNat_ofNat]
  omega

@[simp] theorem highReservedClear_formatA (op : BitVec 4) (addr : Addr) (arg : Len) :
    highReservedClear (formatA op addr arg) = true := by
  rw [highReservedClear, beq_iff_eq]
  apply BitVec.eq_of_toNat_eq
  have := op.isLt
  have := addr.isLt
  have := arg.isLt
  rw [toNat_extract, formatA_toNat, BitVec.toNat_ofNat]
  omega

@[simp] theorem fieldOp_formatB (op : BitVec 4) (csid : CsId) (clkhz : Hertz) :
    fieldOp (formatB op csid clkhz) = op := by
  apply BitVec.eq_of_toNat_eq
  have := op.isLt
  have := csid.isLt
  have := clkhz.isLt
  rw [fieldOp, toNat_extract, formatB_toNat]
  omega

@[simp] theorem fieldCsid_formatB (op : BitVec 4) (csid : CsId) (clkhz : Hertz) :
    fieldCsid (formatB op csid clkhz) = csid := by
  apply BitVec.eq_of_toNat_eq
  have := op.isLt
  have := csid.isLt
  have := clkhz.isLt
  rw [fieldCsid, toNat_extract, formatB_toNat]
  omega

@[simp] theorem fieldClkhz_formatB (op : BitVec 4) (csid : CsId) (clkhz : Hertz) :
    fieldClkhz (formatB op csid clkhz) = clkhz := by
  apply BitVec.eq_of_toNat_eq
  have := op.isLt
  have := csid.isLt
  have := clkhz.isLt
  rw [fieldClkhz, toNat_extract, formatB_toNat]
  omega

@[simp] theorem lowReservedClear_formatB (op : BitVec 4) (csid : CsId) (clkhz : Hertz) :
    lowReservedClear (formatB op csid clkhz) = true := by
  rw [lowReservedClear, beq_iff_eq]
  apply BitVec.eq_of_toNat_eq
  have := op.isLt
  have := csid.isLt
  have := clkhz.isLt
  rw [toNat_extract, formatB_toNat, BitVec.toNat_ofNat]
  omega

@[simp] theorem fieldOp_formatC (op : BitVec 4) : fieldOp (formatC op) = op := by
  apply BitVec.eq_of_toNat_eq
  have := op.isLt
  rw [fieldOp, toNat_extract, formatC_toNat]
  omega

/-- The high byte of a frame's first word is the instruction byte (R76, R110). -/
@[simp] theorem highByte_frameW1 (cmd : Byte) (a : Addr) : highByte (frameW1 cmd a) = cmd := by
  apply BitVec.eq_of_toNat_eq
  have := cmd.isLt
  rw [highByte, frameW1, toNat_extract, toNat_append_eq, toNat_extract]
  omega

/-- A frame carries its whole address (R111). -/
@[simp] theorem frame_address (cmd : Byte) (a : Addr) : lowByte (frameW1 cmd a) ++ frameW2 a = a := by
  apply BitVec.eq_of_toNat_eq
  have := cmd.isLt
  have := a.isLt
  rw [lowByte, frameW1, frameW2, toNat_append_eq, toNat_extract, toNat_append_eq, toNat_extract, toNat_extract]
  omega

end Sys2Proof
end

