-- ==== Sys2Proof/Laws/Memory.lean ====
section
/-! SUPPORT. The laws of memory: read after write, and every operation keeps the canonical form. -/

namespace Sys2Proof.Machine

theorem Memory.wfAbove_cons (lo : Option Nat) (k : Nat) (v : Byte) (rest : Memory) :
    Memory.wfAbove lo ((k, v) :: rest) = true ↔
      (∀ l ∈ lo, l < k) ∧ v ≠ Config.unwrittenByte ∧ Memory.wfAbove (some k) rest = true := by
  cases lo <;> simp [Memory.wfAbove, and_assoc]

theorem Memory.wfAbove_weaken {lo lo' : Option Nat} {m : Memory} (h : Memory.wfAbove lo m = true)
    (hlo : ∀ k, (∀ l ∈ lo, l < k) → ∀ l ∈ lo', l < k) : Memory.wfAbove lo' m = true := by
  cases m with
  | nil => rfl
  | cons c rest =>
    obtain ⟨k, v⟩ := c
    rw [Memory.wfAbove_cons] at h ⊢
    exact ⟨hlo k h.1, h.2⟩

theorem Memory.wfAbove_cell {lo : Option Nat} {a : Nat} (v : Byte) {rest : Memory} (ha : ∀ l ∈ lo, l < a)
    (h : Memory.wfAbove (some a) rest = true) : Memory.wfAbove lo (Memory.cell a v rest) = true := by
  unfold Memory.cell
  split
  · exact Memory.wfAbove_weaken h (fun k hk l hl => lt_trans (ha l hl) (hk a rfl))
  · rename_i hv
    exact (Memory.wfAbove_cons lo a v rest).2 ⟨ha, hv, h⟩

theorem Memory.wfAbove_write {m : Memory} {lo : Option Nat} {a : Nat} (v : Byte) (ha : ∀ l ∈ lo, l < a)
    (h : Memory.wfAbove lo m = true) : Memory.wfAbove lo (Memory.write m a v) = true := by
  induction m generalizing lo with
  | nil => exact Memory.wfAbove_cell v ha rfl
  | cons c rest ih =>
    obtain ⟨k, w⟩ := c
    have hc := (Memory.wfAbove_cons lo k w rest).1 h
    simp only [Memory.write]
    split
    · rename_i hak
      refine Memory.wfAbove_cell v ha ((Memory.wfAbove_cons _ k w rest).2 ⟨?_, hc.2⟩)
      rintro l ⟨⟩
      exact hak
    · split
      · rename_i hak
        subst hak
        exact Memory.wfAbove_cell v ha hc.2.2
      · rename_i h1 h2
        refine (Memory.wfAbove_cons lo k w _).2 ⟨hc.1, hc.2.1, ih ?_ hc.2.2⟩
        rintro l ⟨⟩
        omega

/-- A write keeps the canonical form. -/
theorem Memory.wf_write {m : Memory} (a : Nat) (v : Byte) (h : m.wf = true) : (m.write a v).wf = true :=
  Memory.wfAbove_write v (by simp) h

/-- A list of writes keeps the canonical form. -/
theorem Memory.wf_writeCells (cs : List Host.Cell) {m : Memory} (h : m.wf = true) :
    (m.writeCells cs).wf = true := by
  induction cs generalizing m with
  | nil => exact h
  | cons c rest ih => exact ih (Memory.wf_write _ _ h)

/-- MemWrite keeps the canonical form. -/
theorem Memory.wf_writeBytes (a : Nat) (vs : List Byte) {m : Memory} (h : m.wf = true) :
    (m.writeBytes a vs).wf = true :=
  Memory.wf_writeCells _ h

theorem Memory.read_below {m : Memory} {a : Nat} (h : Memory.wfAbove (some a) m = true) :
    m.read a = Config.unwrittenByte := by
  induction m with
  | nil => rfl
  | cons c rest ih =>
    obtain ⟨k, w⟩ := c
    have hc := (Memory.wfAbove_cons (some a) k w rest).1 h
    have hk : a < k := hc.1 a rfl
    simp only [Memory.read]
    rw [if_neg (by omega)]
    refine ih (Memory.wfAbove_weaken hc.2.2 ?_)
    rintro j hj l ⟨⟩
    exact lt_trans hk (hj k rfl)

theorem Memory.read_cell_same {a : Nat} {v : Byte} {rest : Memory} (h : Memory.wfAbove (some a) rest = true) :
    (Memory.cell a v rest).read a = v := by
  unfold Memory.cell
  split
  · rename_i hv
    rw [Memory.read_below h, hv]
  · simp [Memory.read]

theorem Memory.read_cell_other {a x : Nat} {v : Byte} {rest : Memory} (h : x ≠ a) :
    (Memory.cell a v rest).read x = Memory.read rest x := by
  unfold Memory.cell
  split
  · rfl
  · simp [Memory.read, Ne.symm h]

theorem Memory.read_write_same_above {m : Memory} {lo : Option Nat} {a : Nat} {v : Byte}
    (h : Memory.wfAbove lo m = true) : (Memory.write m a v).read a = v := by
  induction m generalizing lo with
  | nil => exact Memory.read_cell_same rfl
  | cons c rest ih =>
    obtain ⟨k, w⟩ := c
    have hc := (Memory.wfAbove_cons lo k w rest).1 h
    simp only [Memory.write]
    split
    · rename_i hak
      refine Memory.read_cell_same ((Memory.wfAbove_cons _ k w rest).2 ⟨?_, hc.2⟩)
      rintro l ⟨⟩
      exact hak
    · split
      · rename_i hak
        subst hak
        exact Memory.read_cell_same hc.2.2
      · rename_i h1 h2
        simp only [Memory.read]
        rw [if_neg (Ne.symm h2)]
        exact ih hc.2.2

/-- A read after a write to the same address gives the byte written. -/
theorem Memory.read_write_same {m : Memory} (a : Nat) (v : Byte) (h : m.wf = true) :
    (m.write a v).read a = v :=
  Memory.read_write_same_above h

/-- A write leaves every other address alone. -/
theorem Memory.read_write_other (m : Memory) {a x : Nat} (v : Byte) (h : x ≠ a) :
    (m.write a v).read x = m.read x := by
  induction m with
  | nil => exact Memory.read_cell_other h
  | cons c rest ih =>
    obtain ⟨k, w⟩ := c
    simp only [Memory.write]
    split
    · exact Memory.read_cell_other h
    · split
      · rename_i hak
        subst hak
        rw [Memory.read_cell_other h]
        simp [Memory.read, Ne.symm h]
      · simp only [Memory.read]
        split
        · rfl
        · exact ih

/-- A list of writes leaves every address it does not name alone. -/
theorem Memory.read_writeCells_other (cs : List Host.Cell) (m : Memory) {x : Nat}
    (h : ∀ c ∈ cs, c.1 ≠ x) : (m.writeCells cs).read x = m.read x := by
  induction cs generalizing m with
  | nil => rfl
  | cons c rest ih =>
    simp only [Memory.writeCells]
    rw [ih _ (fun d hd => h d (List.mem_cons_of_mem _ hd))]
    exact Memory.read_write_other m _ (Ne.symm (h c List.mem_cons_self))

end Sys2Proof.Machine
end

