-- ==== Sys2Proof/Laws/Device.lean ====
section
/-! SUPPORT. What the reference device can do to its memory. -/

namespace Sys2Proof.Machine

@[simp] theorem Device.closed_mem (d : Device) : d.closed.mem = d.mem := rfl

@[simp] theorem Device.closed_mode (d : Device) : d.closed.mode = d.mode := rfl

@[simp] theorem Device.closed_pend (d : Device) : d.closed.pend = d.pend := rfl

@[simp] theorem Device.closed_wel (d : Device) : d.closed.wel = d.wel := rfl

@[simp] theorem Device.closed_wip (d : Device) : d.closed.wip = d.wip := rfl

@[simp] theorem Device.recordFault_mem (f : DeviceFault) (d : Device) : (d.recordFault f).mem = d.mem := rfl

@[simp] theorem Device.select_mem (d : Device) : d.select.mem = d.mem := by
  unfold Device.select; split <;> rfl

@[simp] theorem Device.endWrite_mem (d : Device) : d.endWrite.mem = d.mem := by
  unfold Device.endWrite; repeat' split
  all_goals rfl

@[simp] theorem Device.deselect_mem (d : Device) : d.deselect.mem = d.mem := by
  unfold Device.deselect; repeat' split
  all_goals simp

/-- A status read leaves the memory alone or completes the write cycle in flight (R87). -/
theorem Device.countRead_mem (d : Device) :
    d.countRead.mem = d.mem ∨ (d.wip = true ∧ d.countRead.mem = d.mem.writeCells d.pend) := by
  unfold Device.countRead
  split
  · split
    · exact .inr ⟨‹_›, rfl⟩
    · exact .inl rfl
  · exact .inl rfl

/-- One byte leaves the memory alone, but for a status read that completes a write cycle (R87). -/
theorem Device.receive_mem (d : Device) (v : Byte) :
    (d.receive v).2.mem = d.mem ∨
      (d.wip = true ∧ d.ins = Config.opRdsr ∧ (d.receive v).2.mem = d.mem.writeCells d.pend) := by
  unfold Device.receive
  split
  · split <;> exact .inl rfl
  · split
    · rename_i h
      rcases d.countRead_mem with h1 | ⟨h1, h2⟩
      · exact .inl h1
      · exact .inr ⟨h1, h, h2⟩
    · repeat' split
      all_goals exact .inl rfl

/-- One byte keeps the canonical form. -/
theorem Device.receive_wf {d : Device} (v : Byte) (h : d.mem.wf = true) : (d.receive v).2.mem.wf = true := by
  rcases d.receive_mem v with h1 | ⟨-, -, h1⟩
  · rw [h1]; exact h
  · rw [h1]; exact Memory.wf_writeCells _ h

/-- One byte keeps the pairs of the write cycle in flight, or drops them all (R87, R90). -/
theorem Device.receive_pend (d : Device) (v : Byte) :
    (d.receive v).2.pend = d.pend ∨ (d.receive v).2.pend = [] := by
  unfold Device.receive
  split
  · split <;> simp [Device.recordFault]
  · split
    · unfold Device.countRead
      repeat' split
      all_goals simp [Device.complete]
    · repeat' split
      all_goals simp

/-- No byte starts a write cycle: that happens at Cs(1) (R90). -/
theorem Device.receive_wip {d : Device} (v : Byte) (h : d.wip = false) : (d.receive v).2.wip = false := by
  unfold Device.receive
  split
  · split <;> simp [Device.recordFault, h]
  · split
    · simp [Device.countRead, h]
    · repeat' split
      all_goals simp [h]

/-- No byte sets the write-enable latch: that happens at Cs(1) (R88). -/
theorem Device.receive_wel {d : Device} (v : Byte) (h : (d.receive v).2.wel = true) : d.wel = true := by
  revert h
  unfold Device.receive
  split
  · split <;> exact id
  · split
    · unfold Device.countRead
      repeat' split
      all_goals simp [Device.complete]
    · repeat' split
      all_goals exact id

/-- Cs(1) sets the write-enable latch only at the end of a WREN transaction (R88). -/
theorem Device.deselect_wel {d : Device} (hw : ¬(d.sel = true ∧ d.ins = Config.opWren ∧ d.pos = 1))
    (h : d.deselect.wel = true) : d.wel = true := by
  revert h
  unfold Device.deselect
  split
  · exact id
  · rename_i hm
    rw [not_not] at hm
    split
    · rename_i hi
      exact absurd ⟨hm.2, hi⟩ hw
    · split
      · intro h
        exact absurd h (by simp)
      · split
        · unfold Device.endWrite
          repeat' split
          all_goals exact id
        · exact id

/-- `e` is a device later in a transaction than `d`: only bytes of the write cycle in flight may have been written,
and none if none was in flight (R87). -/
def Device.Later (d e : Device) : Prop :=
  (∀ a, (∀ c ∈ d.pend, c.1 ≠ a) → e.mem.read a = d.mem.read a) ∧
  (d.wip = false → e.mem = d.mem ∧ e.wip = false) ∧ (e.pend = d.pend ∨ e.pend = [])

theorem Device.Later.refl (d : Device) : d.Later d :=
  ⟨fun _ _ => rfl, fun h => ⟨rfl, h⟩, .inl rfl⟩

theorem Device.Later.trans {d e f : Device} (h : d.Later e) (g : e.Later f) : d.Later f := by
  refine ⟨fun a ha => ?_, fun hw => ?_, ?_⟩
  · rw [g.1 a, h.1 a ha]
    rcases h.2.2 with hp | hp <;> rw [hp]
    · exact ha
    · simp
  · have h1 := h.2.1 hw
    have h2 := g.2.1 h1.2
    exact ⟨h2.1.trans h1.1, h2.2⟩
  · rcases g.2.2 with hp | hp
    · rw [hp]; exact h.2.2
    · exact .inr hp

theorem Device.receive_later (d : Device) (v : Byte) : d.Later (d.receive v).2 := by
  refine ⟨fun a ha => ?_, fun hw => ⟨?_, d.receive_wip v hw⟩, d.receive_pend v⟩
  · rcases d.receive_mem v with h | ⟨-, -, h⟩ <;> rw [h]
    exact Memory.read_writeCells_other _ _ ha
  · rcases d.receive_mem v with h | ⟨h1, -, -⟩
    · exact h
    · simp [hw] at h1

/-- An engine reset keeps the canonical form (R262). -/
theorem Device.cutOff_wf {d : Device} (n : Nat) (h : d.mem.wf = true) : (d.cutOff n).mem.wf = true := by
  unfold Device.cutOff
  split
  · split
    · exact h
    · exact Memory.wf_writeCells _ h
  · simpa using h

/-- An engine reset leaves every byte alone that a cut-off burst's pages do not hold (R262). -/
theorem Device.cutOff_read_other (d : Device) (n x : Nat)
    (h : ∀ c ∈ cutCells n d.addr.toNat (max d.data.length 1), c.1 ≠ x) :
    (d.cutOff n).mem.read x = d.mem.read x := by
  unfold Device.cutOff
  split
  · split
    · rfl
    · exact Memory.read_writeCells_other _ _ h
  · simp

end Sys2Proof.Machine
end

