-- ==== Sys2Proof/Laws/State.lean ====
section
/-! SUPPORT. One lemma per field per update, so that no later proof unfolds a record update. -/

namespace Sys2Proof.Machine

/-! emit -/

@[simp] theorem emit_init (e : Event) (s : State) : (s.emit e).init = s.init := rfl

@[simp] theorem emit_csId (e : Event) (s : State) : (s.emit e).csId = s.csId := rfl

@[simp] theorem emit_clkHz (e : Event) (s : State) : (s.emit e).clkHz = s.clkHz := rfl

@[simp] theorem emit_cw (e : Event) (s : State) : (s.emit e).cw = s.cw := rfl

@[simp] theorem emit_cur (e : Event) (s : State) : (s.emit e).cur = s.cur := rfl

@[simp] theorem emit_rem (e : Event) (s : State) : (s.emit e).rem = s.rem := rfl

@[simp] theorem emit_nb (e : Event) (s : State) : (s.emit e).nb = s.nb := rfl

@[simp] theorem emit_cnt (e : Event) (s : State) : (s.emit e).cnt = s.cnt := rfl

@[simp] theorem emit_sr (e : Event) (s : State) : (s.emit e).sr = s.sr := rfl

@[simp] theorem emit_t0 (e : Event) (s : State) : (s.emit e).t0 = s.t0 := rfl

@[simp] theorem emit_el (e : Event) (s : State) : (s.emit e).el = s.el := rfl

@[simp] theorem emit_rdata (e : Event) (s : State) : (s.emit e).rdata = s.rdata := rfl

@[simp] theorem emit_resp (e : Event) (s : State) : (s.emit e).resp = s.resp := rfl

@[simp] theorem emit_respValid (e : Event) (s : State) : (s.emit e).respValid = s.respValid := rfl

@[simp] theorem emit_csN (e : Event) (s : State) : (s.emit e).csN = s.csN := rfl

@[simp] theorem emit_csOe (e : Event) (s : State) : (s.emit e).csOe = s.csOe := rfl

@[simp] theorem emit_seq (e : Event) (s : State) : (s.emit e).seq = s.seq := rfl

@[simp] theorem emit_b (e : Event) (s : State) : (s.emit e).b = s.b := rfl

@[simp] theorem emit_result (e : Event) (s : State) : (s.emit e).result = s.result := rfl

@[simp] theorem emit_params (e : Event) (s : State) : (s.emit e).params = s.params := rfl

@[simp] theorem emit_env (e : Event) (s : State) : (s.emit e).env = s.env := rfl

@[simp] theorem emit_dev (e : Event) (s : State) : (s.emit e).dev = s.dev := rfl

@[simp] theorem emit_history (e : Event) (s : State) : (s.emit e).history = e :: s.history := rfl

@[simp] theorem emit_draws (e : Event) (s : State) : (s.emit e).draws = s.draws := rfl

/-! goto -/

@[simp] theorem goto_init (p : Phase) (s : State) : (s.goto p).init = s.init := rfl

@[simp] theorem goto_csId (p : Phase) (s : State) : (s.goto p).csId = s.csId := rfl

@[simp] theorem goto_clkHz (p : Phase) (s : State) : (s.goto p).clkHz = s.clkHz := rfl

@[simp] theorem goto_cw (p : Phase) (s : State) : (s.goto p).cw = s.cw := rfl

@[simp] theorem goto_cur (p : Phase) (s : State) : (s.goto p).cur = s.cur := rfl

@[simp] theorem goto_rem (p : Phase) (s : State) : (s.goto p).rem = s.rem := rfl

@[simp] theorem goto_nb (p : Phase) (s : State) : (s.goto p).nb = s.nb := rfl

@[simp] theorem goto_cnt (p : Phase) (s : State) : (s.goto p).cnt = s.cnt := rfl

@[simp] theorem goto_sr (p : Phase) (s : State) : (s.goto p).sr = s.sr := rfl

@[simp] theorem goto_t0 (p : Phase) (s : State) : (s.goto p).t0 = s.t0 := rfl

@[simp] theorem goto_el (p : Phase) (s : State) : (s.goto p).el = s.el := rfl

@[simp] theorem goto_rdata (p : Phase) (s : State) : (s.goto p).rdata = s.rdata := rfl

@[simp] theorem goto_resp (p : Phase) (s : State) : (s.goto p).resp = s.resp := rfl

@[simp] theorem goto_respValid (p : Phase) (s : State) : (s.goto p).respValid = s.respValid := rfl

@[simp] theorem goto_csN (p : Phase) (s : State) : (s.goto p).csN = s.csN := rfl

@[simp] theorem goto_csOe (p : Phase) (s : State) : (s.goto p).csOe = s.csOe := rfl

@[simp] theorem goto_seq (p : Phase) (s : State) : (s.goto p).seq = p := rfl

@[simp] theorem goto_b (p : Phase) (s : State) : (s.goto p).b = s.b := rfl

@[simp] theorem goto_result (p : Phase) (s : State) : (s.goto p).result = s.result := rfl

@[simp] theorem goto_params (p : Phase) (s : State) : (s.goto p).params = s.params := rfl

@[simp] theorem goto_env (p : Phase) (s : State) : (s.goto p).env = s.env := rfl

@[simp] theorem goto_dev (p : Phase) (s : State) : (s.goto p).dev = s.dev := rfl

@[simp] theorem goto_history (p : Phase) (s : State) : (s.goto p).history = s.history := rfl

@[simp] theorem goto_draws (p : Phase) (s : State) : (s.goto p).draws = s.draws := rfl

/-! CS_ASSERT() -/

@[simp] theorem csAssert_init (s : State) : (csAssert s).init = s.init := rfl

@[simp] theorem csAssert_csId (s : State) : (csAssert s).csId = s.csId := rfl

@[simp] theorem csAssert_clkHz (s : State) : (csAssert s).clkHz = s.clkHz := rfl

@[simp] theorem csAssert_cw (s : State) : (csAssert s).cw = s.cw := rfl

@[simp] theorem csAssert_cur (s : State) : (csAssert s).cur = s.cur := rfl

@[simp] theorem csAssert_rem (s : State) : (csAssert s).rem = s.rem := rfl

@[simp] theorem csAssert_nb (s : State) : (csAssert s).nb = s.nb := rfl

@[simp] theorem csAssert_cnt (s : State) : (csAssert s).cnt = s.cnt := rfl

@[simp] theorem csAssert_sr (s : State) : (csAssert s).sr = s.sr := rfl

@[simp] theorem csAssert_t0 (s : State) : (csAssert s).t0 = s.t0 := rfl

@[simp] theorem csAssert_el (s : State) : (csAssert s).el = s.el := rfl

@[simp] theorem csAssert_rdata (s : State) : (csAssert s).rdata = s.rdata := rfl

@[simp] theorem csAssert_resp (s : State) : (csAssert s).resp = s.resp := rfl

@[simp] theorem csAssert_respValid (s : State) : (csAssert s).respValid = s.respValid := rfl

@[simp] theorem csAssert_csN (s : State) : (csAssert s).csN = false := rfl

@[simp] theorem csAssert_csOe (s : State) : (csAssert s).csOe = s.csOe := rfl

@[simp] theorem csAssert_seq (s : State) : (csAssert s).seq = s.seq := rfl

@[simp] theorem csAssert_b (s : State) : (csAssert s).b = s.b := rfl

@[simp] theorem csAssert_result (s : State) : (csAssert s).result = s.result := rfl

@[simp] theorem csAssert_params (s : State) : (csAssert s).params = s.params := rfl

@[simp] theorem csAssert_env (s : State) : (csAssert s).env = s.env := rfl

@[simp] theorem csAssert_dev (s : State) : (csAssert s).dev = s.dev.select := rfl

@[simp] theorem csAssert_history (s : State) : (csAssert s).history = .cs false :: s.history := rfl

@[simp] theorem csAssert_draws (s : State) : (csAssert s).draws = s.draws := rfl

/-! CS_DEASSERT() -/

@[simp] theorem csDeassert_init (s : State) : (csDeassert s).init = s.init := rfl

@[simp] theorem csDeassert_csId (s : State) : (csDeassert s).csId = s.csId := rfl

@[simp] theorem csDeassert_clkHz (s : State) : (csDeassert s).clkHz = s.clkHz := rfl

@[simp] theorem csDeassert_cw (s : State) : (csDeassert s).cw = s.cw := rfl

@[simp] theorem csDeassert_cur (s : State) : (csDeassert s).cur = s.cur := rfl

@[simp] theorem csDeassert_rem (s : State) : (csDeassert s).rem = s.rem := rfl

@[simp] theorem csDeassert_nb (s : State) : (csDeassert s).nb = s.nb := rfl

@[simp] theorem csDeassert_cnt (s : State) : (csDeassert s).cnt = s.cnt := rfl

@[simp] theorem csDeassert_sr (s : State) : (csDeassert s).sr = s.sr := rfl

@[simp] theorem csDeassert_t0 (s : State) : (csDeassert s).t0 = s.t0 := rfl

@[simp] theorem csDeassert_el (s : State) : (csDeassert s).el = s.el := rfl

@[simp] theorem csDeassert_rdata (s : State) : (csDeassert s).rdata = s.rdata := rfl

@[simp] theorem csDeassert_resp (s : State) : (csDeassert s).resp = s.resp := rfl

@[simp] theorem csDeassert_respValid (s : State) : (csDeassert s).respValid = s.respValid := rfl

@[simp] theorem csDeassert_csN (s : State) : (csDeassert s).csN = true := rfl

@[simp] theorem csDeassert_csOe (s : State) : (csDeassert s).csOe = s.csOe := rfl

@[simp] theorem csDeassert_seq (s : State) : (csDeassert s).seq = s.seq := rfl

@[simp] theorem csDeassert_b (s : State) : (csDeassert s).b = s.b := rfl

@[simp] theorem csDeassert_result (s : State) : (csDeassert s).result = s.result := rfl

@[simp] theorem csDeassert_params (s : State) : (csDeassert s).params = s.params := rfl

@[simp] theorem csDeassert_env (s : State) : (csDeassert s).env = s.env := rfl

@[simp] theorem csDeassert_dev (s : State) : (csDeassert s).dev = s.dev.deselect := rfl

@[simp] theorem csDeassert_history (s : State) : (csDeassert s).history = .cs true :: s.history := rfl

@[simp] theorem csDeassert_draws (s : State) : (csDeassert s).draws = s.draws := rfl

/-! CS_CONFIG(id) -/

@[simp] theorem csConfig_init (id : CsId) (s : State) : (csConfig id s).init = s.init := rfl

@[simp] theorem csConfig_csId (id : CsId) (s : State) : (csConfig id s).csId = id := rfl

@[simp] theorem csConfig_clkHz (id : CsId) (s : State) : (csConfig id s).clkHz = s.clkHz := rfl

@[simp] theorem csConfig_cw (id : CsId) (s : State) : (csConfig id s).cw = s.cw := rfl

@[simp] theorem csConfig_cur (id : CsId) (s : State) : (csConfig id s).cur = s.cur := rfl

@[simp] theorem csConfig_rem (id : CsId) (s : State) : (csConfig id s).rem = s.rem := rfl

@[simp] theorem csConfig_nb (id : CsId) (s : State) : (csConfig id s).nb = s.nb := rfl

@[simp] theorem csConfig_cnt (id : CsId) (s : State) : (csConfig id s).cnt = s.cnt := rfl

@[simp] theorem csConfig_sr (id : CsId) (s : State) : (csConfig id s).sr = s.sr := rfl

@[simp] theorem csConfig_t0 (id : CsId) (s : State) : (csConfig id s).t0 = s.t0 := rfl

@[simp] theorem csConfig_el (id : CsId) (s : State) : (csConfig id s).el = s.el := rfl

@[simp] theorem csConfig_rdata (id : CsId) (s : State) : (csConfig id s).rdata = s.rdata := rfl

@[simp] theorem csConfig_resp (id : CsId) (s : State) : (csConfig id s).resp = s.resp := rfl

@[simp] theorem csConfig_respValid (id : CsId) (s : State) : (csConfig id s).respValid = s.respValid := rfl

@[simp] theorem csConfig_csN (id : CsId) (s : State) : (csConfig id s).csN = s.csN := rfl

@[simp] theorem csConfig_csOe (id : CsId) (s : State) : (csConfig id s).csOe = true := rfl

@[simp] theorem csConfig_seq (id : CsId) (s : State) : (csConfig id s).seq = s.seq := rfl

@[simp] theorem csConfig_b (id : CsId) (s : State) : (csConfig id s).b = s.b := rfl

@[simp] theorem csConfig_result (id : CsId) (s : State) : (csConfig id s).result = s.result := rfl

@[simp] theorem csConfig_params (id : CsId) (s : State) : (csConfig id s).params = s.params := rfl

@[simp] theorem csConfig_env (id : CsId) (s : State) : (csConfig id s).env = s.env := rfl

@[simp] theorem csConfig_dev (id : CsId) (s : State) : (csConfig id s).dev = s.dev := rfl

@[simp] theorem csConfig_history (id : CsId) (s : State) : (csConfig id s).history = .csCfg id :: s.history := rfl

@[simp] theorem csConfig_draws (id : CsId) (s : State) : (csConfig id s).draws = s.draws := rfl

/-! SPI_CONFIG(hz, mode) -/

@[simp] theorem spiConfig_init (hz : Hertz) (s : State) : (spiConfig hz s).init = s.init := rfl

@[simp] theorem spiConfig_csId (hz : Hertz) (s : State) : (spiConfig hz s).csId = s.csId := rfl

@[simp] theorem spiConfig_clkHz (hz : Hertz) (s : State) : (spiConfig hz s).clkHz = s.clkHz := rfl

@[simp] theorem spiConfig_cw (hz : Hertz) (s : State) : (spiConfig hz s).cw = s.cw := rfl

@[simp] theorem spiConfig_cur (hz : Hertz) (s : State) : (spiConfig hz s).cur = s.cur := rfl

@[simp] theorem spiConfig_rem (hz : Hertz) (s : State) : (spiConfig hz s).rem = s.rem := rfl

@[simp] theorem spiConfig_nb (hz : Hertz) (s : State) : (spiConfig hz s).nb = s.nb := rfl

@[simp] theorem spiConfig_cnt (hz : Hertz) (s : State) : (spiConfig hz s).cnt = s.cnt := rfl

@[simp] theorem spiConfig_sr (hz : Hertz) (s : State) : (spiConfig hz s).sr = s.sr := rfl

@[simp] theorem spiConfig_t0 (hz : Hertz) (s : State) : (spiConfig hz s).t0 = s.t0 := rfl

@[simp] theorem spiConfig_el (hz : Hertz) (s : State) : (spiConfig hz s).el = s.el := rfl

@[simp] theorem spiConfig_rdata (hz : Hertz) (s : State) : (spiConfig hz s).rdata = s.rdata := rfl

@[simp] theorem spiConfig_resp (hz : Hertz) (s : State) : (spiConfig hz s).resp = s.resp := rfl

@[simp] theorem spiConfig_respValid (hz : Hertz) (s : State) : (spiConfig hz s).respValid = s.respValid := rfl

@[simp] theorem spiConfig_csN (hz : Hertz) (s : State) : (spiConfig hz s).csN = s.csN := rfl

@[simp] theorem spiConfig_csOe (hz : Hertz) (s : State) : (spiConfig hz s).csOe = s.csOe := rfl

@[simp] theorem spiConfig_seq (hz : Hertz) (s : State) : (spiConfig hz s).seq = s.seq := rfl

@[simp] theorem spiConfig_b (hz : Hertz) (s : State) : (spiConfig hz s).b = s.b := rfl

@[simp] theorem spiConfig_result (hz : Hertz) (s : State) : (spiConfig hz s).result = s.result := rfl

@[simp] theorem spiConfig_params (hz : Hertz) (s : State) : (spiConfig hz s).params = s.params := rfl

@[simp] theorem spiConfig_env (hz : Hertz) (s : State) : (spiConfig hz s).env = { s.env with session := some (hz, s.params.spiMode) } := rfl

@[simp] theorem spiConfig_dev (hz : Hertz) (s : State) : (spiConfig hz s).dev = s.dev := rfl

@[simp] theorem spiConfig_history (hz : Hertz) (s : State) : (spiConfig hz s).history = .spiCfg hz s.params.spiMode :: s.history := rfl

@[simp] theorem spiConfig_draws (hz : Hertz) (s : State) : (spiConfig hz s).draws = s.draws := rfl

/-! The end of an operation -/

@[simp] theorem conclude_init (r : Result) (s : State) : (conclude r s).init = s.init := rfl

@[simp] theorem conclude_csId (r : Result) (s : State) : (conclude r s).csId = s.csId := rfl

@[simp] theorem conclude_clkHz (r : Result) (s : State) : (conclude r s).clkHz = s.clkHz := rfl

@[simp] theorem conclude_cw (r : Result) (s : State) : (conclude r s).cw = s.cw := rfl

@[simp] theorem conclude_cur (r : Result) (s : State) : (conclude r s).cur = s.cur := rfl

@[simp] theorem conclude_rem (r : Result) (s : State) : (conclude r s).rem = s.rem := rfl

@[simp] theorem conclude_nb (r : Result) (s : State) : (conclude r s).nb = s.nb := rfl

@[simp] theorem conclude_cnt (r : Result) (s : State) : (conclude r s).cnt = s.cnt := rfl

@[simp] theorem conclude_sr (r : Result) (s : State) : (conclude r s).sr = s.sr := rfl

@[simp] theorem conclude_t0 (r : Result) (s : State) : (conclude r s).t0 = s.t0 := rfl

@[simp] theorem conclude_el (r : Result) (s : State) : (conclude r s).el = s.el := rfl

@[simp] theorem conclude_rdata (r : Result) (s : State) : (conclude r s).rdata = s.rdata := rfl

@[simp] theorem conclude_resp (r : Result) (s : State) : (conclude r s).resp = s.resp := rfl

@[simp] theorem conclude_respValid (r : Result) (s : State) : (conclude r s).respValid = s.respValid := rfl

@[simp] theorem conclude_csN (r : Result) (s : State) : (conclude r s).csN = s.csN := rfl

@[simp] theorem conclude_csOe (r : Result) (s : State) : (conclude r s).csOe = s.csOe := rfl

@[simp] theorem conclude_seq (r : Result) (s : State) : (conclude r s).seq = .resp := rfl

@[simp] theorem conclude_b (r : Result) (s : State) : (conclude r s).b = s.b := rfl

@[simp] theorem conclude_result (r : Result) (s : State) : (conclude r s).result = r := rfl

@[simp] theorem conclude_params (r : Result) (s : State) : (conclude r s).params = s.params := rfl

@[simp] theorem conclude_env (r : Result) (s : State) : (conclude r s).env = s.env := rfl

@[simp] theorem conclude_dev (r : Result) (s : State) : (conclude r s).dev = s.dev := rfl

@[simp] theorem conclude_history (r : Result) (s : State) : (conclude r s).history = s.history := rfl

@[simp] theorem conclude_draws (r : Result) (s : State) : (conclude r s).draws = s.draws := rfl

/-! raise E -/

@[simp] theorem raise_init (r : Result) (s : State) : (raise r s).init = s.init := rfl

@[simp] theorem raise_csId (r : Result) (s : State) : (raise r s).csId = s.csId := rfl

@[simp] theorem raise_clkHz (r : Result) (s : State) : (raise r s).clkHz = s.clkHz := rfl

@[simp] theorem raise_cw (r : Result) (s : State) : (raise r s).cw = s.cw := rfl

@[simp] theorem raise_cur (r : Result) (s : State) : (raise r s).cur = s.cur := rfl

@[simp] theorem raise_rem (r : Result) (s : State) : (raise r s).rem = s.rem := rfl

@[simp] theorem raise_nb (r : Result) (s : State) : (raise r s).nb = s.nb := rfl

@[simp] theorem raise_cnt (r : Result) (s : State) : (raise r s).cnt = s.cnt := rfl

@[simp] theorem raise_sr (r : Result) (s : State) : (raise r s).sr = s.sr := rfl

@[simp] theorem raise_t0 (r : Result) (s : State) : (raise r s).t0 = s.t0 := rfl

@[simp] theorem raise_el (r : Result) (s : State) : (raise r s).el = s.el := rfl

@[simp] theorem raise_rdata (r : Result) (s : State) : (raise r s).rdata = s.rdata := rfl

@[simp] theorem raise_resp (r : Result) (s : State) : (raise r s).resp = s.resp := rfl

@[simp] theorem raise_respValid (r : Result) (s : State) : (raise r s).respValid = s.respValid := rfl

@[simp] theorem raise_csN (r : Result) (s : State) : (raise r s).csN = s.csN := rfl

@[simp] theorem raise_csOe (r : Result) (s : State) : (raise r s).csOe = s.csOe := rfl

@[simp] theorem raise_seq (r : Result) (s : State) : (raise r s).seq = .resp := rfl

@[simp] theorem raise_b (r : Result) (s : State) : (raise r s).b = s.b := rfl

@[simp] theorem raise_result (r : Result) (s : State) : (raise r s).result = r := rfl

@[simp] theorem raise_params (r : Result) (s : State) : (raise r s).params = s.params := rfl

@[simp] theorem raise_env (r : Result) (s : State) : (raise r s).env = s.env := rfl

@[simp] theorem raise_dev (r : Result) (s : State) : (raise r s).dev = s.dev := rfl

@[simp] theorem raise_history (r : Result) (s : State) : (raise r s).history = s.history := rfl

@[simp] theorem raise_draws (r : Result) (s : State) : (raise r s).draws = s.draws := rfl

/-! FINISH(OK) -/

@[simp] theorem finish_init (s : State) : (finish s).init = s.init := rfl

@[simp] theorem finish_csId (s : State) : (finish s).csId = s.csId := rfl

@[simp] theorem finish_clkHz (s : State) : (finish s).clkHz = s.clkHz := rfl

@[simp] theorem finish_cw (s : State) : (finish s).cw = s.cw := rfl

@[simp] theorem finish_cur (s : State) : (finish s).cur = s.cur := rfl

@[simp] theorem finish_rem (s : State) : (finish s).rem = s.rem := rfl

@[simp] theorem finish_nb (s : State) : (finish s).nb = s.nb := rfl

@[simp] theorem finish_cnt (s : State) : (finish s).cnt = s.cnt := rfl

@[simp] theorem finish_sr (s : State) : (finish s).sr = s.sr := rfl

@[simp] theorem finish_t0 (s : State) : (finish s).t0 = s.t0 := rfl

@[simp] theorem finish_el (s : State) : (finish s).el = s.el := rfl

@[simp] theorem finish_rdata (s : State) : (finish s).rdata = s.rdata := rfl

@[simp] theorem finish_resp (s : State) : (finish s).resp = s.resp := rfl

@[simp] theorem finish_respValid (s : State) : (finish s).respValid = s.respValid := rfl

@[simp] theorem finish_csN (s : State) : (finish s).csN = s.csN := rfl

@[simp] theorem finish_csOe (s : State) : (finish s).csOe = s.csOe := rfl

@[simp] theorem finish_seq (s : State) : (finish s).seq = .resp := rfl

@[simp] theorem finish_b (s : State) : (finish s).b = s.b := rfl

@[simp] theorem finish_result (s : State) : (finish s).result = .ok := rfl

@[simp] theorem finish_params (s : State) : (finish s).params = s.params := rfl

@[simp] theorem finish_env (s : State) : (finish s).env = s.env := rfl

@[simp] theorem finish_dev (s : State) : (finish s).dev = s.dev := rfl

@[simp] theorem finish_history (s : State) : (finish s).history = s.history := rfl

@[simp] theorem finish_draws (s : State) : (finish s).draws = s.draws := rfl

/-! The RESP step -/

@[simp] theorem respond_init (s : State) : (respond s).init = s.init := rfl

@[simp] theorem respond_csId (s : State) : (respond s).csId = s.csId := rfl

@[simp] theorem respond_clkHz (s : State) : (respond s).clkHz = s.clkHz := rfl

@[simp] theorem respond_cw (s : State) : (respond s).cw = s.cw := rfl

@[simp] theorem respond_cur (s : State) : (respond s).cur = s.cur := rfl

@[simp] theorem respond_rem (s : State) : (respond s).rem = s.rem := rfl

@[simp] theorem respond_nb (s : State) : (respond s).nb = s.nb := rfl

@[simp] theorem respond_cnt (s : State) : (respond s).cnt = s.cnt := rfl

@[simp] theorem respond_sr (s : State) : (respond s).sr = s.sr := rfl

@[simp] theorem respond_t0 (s : State) : (respond s).t0 = s.t0 := rfl

@[simp] theorem respond_el (s : State) : (respond s).el = s.el := rfl

@[simp] theorem respond_rdata (s : State) : (respond s).rdata = s.rdata := rfl

@[simp] theorem respond_resp (s : State) : (respond s).resp = pendingResp s := rfl

@[simp] theorem respond_respValid (s : State) : (respond s).respValid = true := rfl

@[simp] theorem respond_csN (s : State) : (respond s).csN = s.csN := rfl

@[simp] theorem respond_csOe (s : State) : (respond s).csOe = s.csOe := rfl

@[simp] theorem respond_seq (s : State) : (respond s).seq = .idle := rfl

@[simp] theorem respond_b (s : State) : (respond s).b = s.b := rfl

@[simp] theorem respond_result (s : State) : (respond s).result = s.result := rfl

@[simp] theorem respond_params (s : State) : (respond s).params = s.params := rfl

@[simp] theorem respond_env (s : State) : (respond s).env = s.env := rfl

@[simp] theorem respond_dev (s : State) : (respond s).dev = s.dev := rfl

@[simp] theorem respond_history (s : State) : (respond s).history = .resp (pendingResp s) :: s.history := rfl

@[simp] theorem respond_draws (s : State) : (respond s).draws = s.draws := rfl

/-! Acceptance -/

@[simp] theorem latch_init (w : Word64) (s : State) : (latch w s).init = s.init := rfl

@[simp] theorem latch_csId (w : Word64) (s : State) : (latch w s).csId = s.csId := rfl

@[simp] theorem latch_clkHz (w : Word64) (s : State) : (latch w s).clkHz = s.clkHz := rfl

@[simp] theorem latch_cw (w : Word64) (s : State) : (latch w s).cw = w := rfl

@[simp] theorem latch_cur (w : Word64) (s : State) : (latch w s).cur = s.cur := rfl

@[simp] theorem latch_rem (w : Word64) (s : State) : (latch w s).rem = s.rem := rfl

@[simp] theorem latch_nb (w : Word64) (s : State) : (latch w s).nb = s.nb := rfl

@[simp] theorem latch_cnt (w : Word64) (s : State) : (latch w s).cnt = 0#24 := rfl

@[simp] theorem latch_sr (w : Word64) (s : State) : (latch w s).sr = 0#8 := rfl

@[simp] theorem latch_t0 (w : Word64) (s : State) : (latch w s).t0 = s.t0 := rfl

@[simp] theorem latch_el (w : Word64) (s : State) : (latch w s).el = 0#32 := rfl

@[simp] theorem latch_rdata (w : Word64) (s : State) : (latch w s).rdata = 0#8 := rfl

@[simp] theorem latch_resp (w : Word64) (s : State) : (latch w s).resp = s.resp := rfl

@[simp] theorem latch_respValid (w : Word64) (s : State) : (latch w s).respValid = false := rfl

@[simp] theorem latch_csN (w : Word64) (s : State) : (latch w s).csN = s.csN := rfl

@[simp] theorem latch_csOe (w : Word64) (s : State) : (latch w s).csOe = s.csOe := rfl

@[simp] theorem latch_seq (w : Word64) (s : State) : (latch w s).seq = .accept := rfl

@[simp] theorem latch_b (w : Word64) (s : State) : (latch w s).b = s.b := rfl

@[simp] theorem latch_result (w : Word64) (s : State) : (latch w s).result = s.result := rfl

@[simp] theorem latch_params (w : Word64) (s : State) : (latch w s).params = s.params := rfl

@[simp] theorem latch_env (w : Word64) (s : State) : (latch w s).env = s.env := rfl

@[simp] theorem latch_dev (w : Word64) (s : State) : (latch w s).dev = s.dev := rfl

@[simp] theorem latch_history (w : Word64) (s : State) : (latch w s).history = s.history := rfl

@[simp] theorem latch_draws (w : Word64) (s : State) : (latch w s).draws = s.draws := rfl

/-! Register reset -/

@[simp] theorem resetRegisters_init (s : State) : (resetRegisters s).init = false := rfl

@[simp] theorem resetRegisters_csId (s : State) : (resetRegisters s).csId = 0#8 := rfl

@[simp] theorem resetRegisters_clkHz (s : State) : (resetRegisters s).clkHz = 0#32 := rfl

@[simp] theorem resetRegisters_cw (s : State) : (resetRegisters s).cw = 0#64 := rfl

@[simp] theorem resetRegisters_cur (s : State) : (resetRegisters s).cur = 0#25 := rfl

@[simp] theorem resetRegisters_rem (s : State) : (resetRegisters s).rem = 0#24 := rfl

@[simp] theorem resetRegisters_nb (s : State) : (resetRegisters s).nb = 0#10 := rfl

@[simp] theorem resetRegisters_cnt (s : State) : (resetRegisters s).cnt = 0#24 := rfl

@[simp] theorem resetRegisters_sr (s : State) : (resetRegisters s).sr = 0#8 := rfl

@[simp] theorem resetRegisters_t0 (s : State) : (resetRegisters s).t0 = 0#32 := rfl

@[simp] theorem resetRegisters_el (s : State) : (resetRegisters s).el = 0#32 := rfl

@[simp] theorem resetRegisters_rdata (s : State) : (resetRegisters s).rdata = 0#8 := rfl

@[simp] theorem resetRegisters_resp (s : State) : (resetRegisters s).resp = 0#64 := rfl

@[simp] theorem resetRegisters_respValid (s : State) : (resetRegisters s).respValid = false := rfl

@[simp] theorem resetRegisters_csN (s : State) : (resetRegisters s).csN = true := rfl

@[simp] theorem resetRegisters_csOe (s : State) : (resetRegisters s).csOe = false := rfl

@[simp] theorem resetRegisters_seq (s : State) : (resetRegisters s).seq = .idle := rfl

@[simp] theorem resetRegisters_b (s : State) : (resetRegisters s).b = 0#8 := rfl

@[simp] theorem resetRegisters_result (s : State) : (resetRegisters s).result = .ok := rfl

@[simp] theorem resetRegisters_params (s : State) : (resetRegisters s).params = s.params := rfl

@[simp] theorem resetRegisters_env (s : State) : (resetRegisters s).env = s.env := rfl

@[simp] theorem resetRegisters_dev (s : State) : (resetRegisters s).dev = s.dev := rfl

@[simp] theorem resetRegisters_history (s : State) : (resetRegisters s).history = s.history := rfl

@[simp] theorem resetRegisters_draws (s : State) : (resetRegisters s).draws = s.draws := rfl

/-! The step with rst = 1 -/

@[simp] theorem resetStep_init (s : State) : (resetStep s).init = false := rfl

@[simp] theorem resetStep_csId (s : State) : (resetStep s).csId = 0#8 := rfl

@[simp] theorem resetStep_clkHz (s : State) : (resetStep s).clkHz = 0#32 := rfl

@[simp] theorem resetStep_cw (s : State) : (resetStep s).cw = 0#64 := rfl

@[simp] theorem resetStep_cur (s : State) : (resetStep s).cur = 0#25 := rfl

@[simp] theorem resetStep_rem (s : State) : (resetStep s).rem = 0#24 := rfl

@[simp] theorem resetStep_nb (s : State) : (resetStep s).nb = 0#10 := rfl

@[simp] theorem resetStep_cnt (s : State) : (resetStep s).cnt = 0#24 := rfl

@[simp] theorem resetStep_sr (s : State) : (resetStep s).sr = 0#8 := rfl

@[simp] theorem resetStep_t0 (s : State) : (resetStep s).t0 = 0#32 := rfl

@[simp] theorem resetStep_el (s : State) : (resetStep s).el = 0#32 := rfl

@[simp] theorem resetStep_rdata (s : State) : (resetStep s).rdata = 0#8 := rfl

@[simp] theorem resetStep_resp (s : State) : (resetStep s).resp = 0#64 := rfl

@[simp] theorem resetStep_respValid (s : State) : (resetStep s).respValid = false := rfl

@[simp] theorem resetStep_csN (s : State) : (resetStep s).csN = true := rfl

@[simp] theorem resetStep_csOe (s : State) : (resetStep s).csOe = false := rfl

@[simp] theorem resetStep_seq (s : State) : (resetStep s).seq = .idle := rfl

@[simp] theorem resetStep_b (s : State) : (resetStep s).b = 0#8 := rfl

@[simp] theorem resetStep_result (s : State) : (resetStep s).result = .ok := rfl

@[simp] theorem resetStep_params (s : State) : (resetStep s).params = s.params := rfl

@[simp] theorem resetStep_env (s : State) : (resetStep s).env = { s.env with rst := s.env.rst - 1, session := none } := rfl

@[simp] theorem resetStep_dev (s : State) : (resetStep s).dev = s.dev.cutOff s.draws := rfl

@[simp] theorem resetStep_history (s : State) : (resetStep s).history = s.history := rfl

@[simp] theorem resetStep_draws (s : State) : (resetStep s).draws = s.draws + 1 := rfl

/-! A draw of the device oracle -/

@[simp] theorem drawMiso_init (s : State) : ((drawMiso s).2).init = s.init := by
  unfold drawMiso; split <;> rfl

@[simp] theorem drawMiso_csId (s : State) : ((drawMiso s).2).csId = s.csId := by
  unfold drawMiso; split <;> rfl

@[simp] theorem drawMiso_clkHz (s : State) : ((drawMiso s).2).clkHz = s.clkHz := by
  unfold drawMiso; split <;> rfl

@[simp] theorem drawMiso_cw (s : State) : ((drawMiso s).2).cw = s.cw := by
  unfold drawMiso; split <;> rfl

@[simp] theorem drawMiso_cur (s : State) : ((drawMiso s).2).cur = s.cur := by
  unfold drawMiso; split <;> rfl

@[simp] theorem drawMiso_rem (s : State) : ((drawMiso s).2).rem = s.rem := by
  unfold drawMiso; split <;> rfl

@[simp] theorem drawMiso_nb (s : State) : ((drawMiso s).2).nb = s.nb := by
  unfold drawMiso; split <;> rfl

@[simp] theorem drawMiso_cnt (s : State) : ((drawMiso s).2).cnt = s.cnt := by
  unfold drawMiso; split <;> rfl

@[simp] theorem drawMiso_sr (s : State) : ((drawMiso s).2).sr = s.sr := by
  unfold drawMiso; split <;> rfl

@[simp] theorem drawMiso_t0 (s : State) : ((drawMiso s).2).t0 = s.t0 := by
  unfold drawMiso; split <;> rfl

@[simp] theorem drawMiso_el (s : State) : ((drawMiso s).2).el = s.el := by
  unfold drawMiso; split <;> rfl

@[simp] theorem drawMiso_rdata (s : State) : ((drawMiso s).2).rdata = s.rdata := by
  unfold drawMiso; split <;> rfl

@[simp] theorem drawMiso_resp (s : State) : ((drawMiso s).2).resp = s.resp := by
  unfold drawMiso; split <;> rfl

@[simp] theorem drawMiso_respValid (s : State) : ((drawMiso s).2).respValid = s.respValid := by
  unfold drawMiso; split <;> rfl

@[simp] theorem drawMiso_csN (s : State) : ((drawMiso s).2).csN = s.csN := by
  unfold drawMiso; split <;> rfl

@[simp] theorem drawMiso_csOe (s : State) : ((drawMiso s).2).csOe = s.csOe := by
  unfold drawMiso; split <;> rfl

@[simp] theorem drawMiso_seq (s : State) : ((drawMiso s).2).seq = s.seq := by
  unfold drawMiso; split <;> rfl

@[simp] theorem drawMiso_b (s : State) : ((drawMiso s).2).b = s.b := by
  unfold drawMiso; split <;> rfl

@[simp] theorem drawMiso_result (s : State) : ((drawMiso s).2).result = s.result := by
  unfold drawMiso; split <;> rfl

@[simp] theorem drawMiso_params (s : State) : ((drawMiso s).2).params = s.params := by
  unfold drawMiso; split <;> rfl

@[simp] theorem drawMiso_dev (s : State) : ((drawMiso s).2).dev = s.dev := by
  unfold drawMiso; split <;> rfl

@[simp] theorem drawMiso_history (s : State) : ((drawMiso s).2).history = s.history := by
  unfold drawMiso; split <;> rfl

/-! ... and its environment -/

@[simp] theorem drawMiso_env_cmds (s : State) : ((drawMiso s).2).env.cmds = s.env.cmds := by
  unfold drawMiso; split <;> rfl

@[simp] theorem drawMiso_env_pin (s : State) : ((drawMiso s).2).env.pin = s.env.pin := by
  unfold drawMiso; split <;> rfl

@[simp] theorem drawMiso_env_poutReady (s : State) : ((drawMiso s).2).env.poutReady = s.env.poutReady := by
  unfold drawMiso; split <;> rfl

@[simp] theorem drawMiso_env_spiAck (s : State) : ((drawMiso s).2).env.spiAck = s.env.spiAck := by
  unfold drawMiso; split <;> rfl

@[simp] theorem drawMiso_env_now (s : State) : ((drawMiso s).2).env.now = s.env.now := by
  unfold drawMiso; split <;> rfl

@[simp] theorem drawMiso_env_ticks (s : State) : ((drawMiso s).2).env.ticks = s.env.ticks := by
  unfold drawMiso; split <;> rfl

@[simp] theorem drawMiso_env_rst (s : State) : ((drawMiso s).2).env.rst = s.env.rst := by
  unfold drawMiso; split <;> rfl

@[simp] theorem drawMiso_env_session (s : State) : ((drawMiso s).2).env.session = s.env.session := by
  unfold drawMiso; split <;> rfl

/-! The device's answer to a byte -/

@[simp] theorem deviceByte_init (v : Byte) (s : State) : ((deviceByte v s).2).init = s.init := by
  unfold deviceByte; split
  · split <;> simp
  · simp

@[simp] theorem deviceByte_csId (v : Byte) (s : State) : ((deviceByte v s).2).csId = s.csId := by
  unfold deviceByte; split
  · split <;> simp
  · simp

@[simp] theorem deviceByte_clkHz (v : Byte) (s : State) : ((deviceByte v s).2).clkHz = s.clkHz := by
  unfold deviceByte; split
  · split <;> simp
  · simp

@[simp] theorem deviceByte_cw (v : Byte) (s : State) : ((deviceByte v s).2).cw = s.cw := by
  unfold deviceByte; split
  · split <;> simp
  · simp

@[simp] theorem deviceByte_cur (v : Byte) (s : State) : ((deviceByte v s).2).cur = s.cur := by
  unfold deviceByte; split
  · split <;> simp
  · simp

@[simp] theorem deviceByte_rem (v : Byte) (s : State) : ((deviceByte v s).2).rem = s.rem := by
  unfold deviceByte; split
  · split <;> simp
  · simp

@[simp] theorem deviceByte_nb (v : Byte) (s : State) : ((deviceByte v s).2).nb = s.nb := by
  unfold deviceByte; split
  · split <;> simp
  · simp

@[simp] theorem deviceByte_cnt (v : Byte) (s : State) : ((deviceByte v s).2).cnt = s.cnt := by
  unfold deviceByte; split
  · split <;> simp
  · simp

@[simp] theorem deviceByte_sr (v : Byte) (s : State) : ((deviceByte v s).2).sr = s.sr := by
  unfold deviceByte; split
  · split <;> simp
  · simp

@[simp] theorem deviceByte_t0 (v : Byte) (s : State) : ((deviceByte v s).2).t0 = s.t0 := by
  unfold deviceByte; split
  · split <;> simp
  · simp

@[simp] theorem deviceByte_el (v : Byte) (s : State) : ((deviceByte v s).2).el = s.el := by
  unfold deviceByte; split
  · split <;> simp
  · simp

@[simp] theorem deviceByte_rdata (v : Byte) (s : State) : ((deviceByte v s).2).rdata = s.rdata := by
  unfold deviceByte; split
  · split <;> simp
  · simp

@[simp] theorem deviceByte_resp (v : Byte) (s : State) : ((deviceByte v s).2).resp = s.resp := by
  unfold deviceByte; split
  · split <;> simp
  · simp

@[simp] theorem deviceByte_respValid (v : Byte) (s : State) : ((deviceByte v s).2).respValid = s.respValid := by
  unfold deviceByte; split
  · split <;> simp
  · simp

@[simp] theorem deviceByte_csN (v : Byte) (s : State) : ((deviceByte v s).2).csN = s.csN := by
  unfold deviceByte; split
  · split <;> simp
  · simp

@[simp] theorem deviceByte_csOe (v : Byte) (s : State) : ((deviceByte v s).2).csOe = s.csOe := by
  unfold deviceByte; split
  · split <;> simp
  · simp

@[simp] theorem deviceByte_seq (v : Byte) (s : State) : ((deviceByte v s).2).seq = s.seq := by
  unfold deviceByte; split
  · split <;> simp
  · simp

@[simp] theorem deviceByte_b (v : Byte) (s : State) : ((deviceByte v s).2).b = s.b := by
  unfold deviceByte; split
  · split <;> simp
  · simp

@[simp] theorem deviceByte_result (v : Byte) (s : State) : ((deviceByte v s).2).result = s.result := by
  unfold deviceByte; split
  · split <;> simp
  · simp

@[simp] theorem deviceByte_params (v : Byte) (s : State) : ((deviceByte v s).2).params = s.params := by
  unfold deviceByte; split
  · split <;> simp
  · simp

@[simp] theorem deviceByte_history (v : Byte) (s : State) : ((deviceByte v s).2).history = s.history := by
  unfold deviceByte; split
  · split <;> simp
  · simp

/-! ... and its environment -/

@[simp] theorem deviceByte_env_cmds (v : Byte) (s : State) : ((deviceByte v s).2).env.cmds = s.env.cmds := by
  unfold deviceByte; split
  · split <;> simp
  · simp

@[simp] theorem deviceByte_env_pin (v : Byte) (s : State) : ((deviceByte v s).2).env.pin = s.env.pin := by
  unfold deviceByte; split
  · split <;> simp
  · simp

@[simp] theorem deviceByte_env_poutReady (v : Byte) (s : State) : ((deviceByte v s).2).env.poutReady = s.env.poutReady := by
  unfold deviceByte; split
  · split <;> simp
  · simp

@[simp] theorem deviceByte_env_spiAck (v : Byte) (s : State) : ((deviceByte v s).2).env.spiAck = s.env.spiAck := by
  unfold deviceByte; split
  · split <;> simp
  · simp

@[simp] theorem deviceByte_env_now (v : Byte) (s : State) : ((deviceByte v s).2).env.now = s.env.now := by
  unfold deviceByte; split
  · split <;> simp
  · simp

@[simp] theorem deviceByte_env_ticks (v : Byte) (s : State) : ((deviceByte v s).2).env.ticks = s.env.ticks := by
  unfold deviceByte; split
  · split <;> simp
  · simp

@[simp] theorem deviceByte_env_rst (v : Byte) (s : State) : ((deviceByte v s).2).env.rst = s.env.rst := by
  unfold deviceByte; split
  · split <;> simp
  · simp

@[simp] theorem deviceByte_env_session (v : Byte) (s : State) : ((deviceByte v s).2).env.session = s.env.session := by
  unfold deviceByte; split
  · split <;> simp
  · simp

/-! The device's answer to a 16-bit word -/

@[simp] theorem deviceHalf_init (w : Half) (s : State) : ((deviceHalf w s).2).init = s.init := by
  unfold deviceHalf; split <;> simp

@[simp] theorem deviceHalf_csId (w : Half) (s : State) : ((deviceHalf w s).2).csId = s.csId := by
  unfold deviceHalf; split <;> simp

@[simp] theorem deviceHalf_clkHz (w : Half) (s : State) : ((deviceHalf w s).2).clkHz = s.clkHz := by
  unfold deviceHalf; split <;> simp

@[simp] theorem deviceHalf_cw (w : Half) (s : State) : ((deviceHalf w s).2).cw = s.cw := by
  unfold deviceHalf; split <;> simp

@[simp] theorem deviceHalf_cur (w : Half) (s : State) : ((deviceHalf w s).2).cur = s.cur := by
  unfold deviceHalf; split <;> simp

@[simp] theorem deviceHalf_rem (w : Half) (s : State) : ((deviceHalf w s).2).rem = s.rem := by
  unfold deviceHalf; split <;> simp

@[simp] theorem deviceHalf_nb (w : Half) (s : State) : ((deviceHalf w s).2).nb = s.nb := by
  unfold deviceHalf; split <;> simp

@[simp] theorem deviceHalf_cnt (w : Half) (s : State) : ((deviceHalf w s).2).cnt = s.cnt := by
  unfold deviceHalf; split <;> simp

@[simp] theorem deviceHalf_sr (w : Half) (s : State) : ((deviceHalf w s).2).sr = s.sr := by
  unfold deviceHalf; split <;> simp

@[simp] theorem deviceHalf_t0 (w : Half) (s : State) : ((deviceHalf w s).2).t0 = s.t0 := by
  unfold deviceHalf; split <;> simp

@[simp] theorem deviceHalf_el (w : Half) (s : State) : ((deviceHalf w s).2).el = s.el := by
  unfold deviceHalf; split <;> simp

@[simp] theorem deviceHalf_rdata (w : Half) (s : State) : ((deviceHalf w s).2).rdata = s.rdata := by
  unfold deviceHalf; split <;> simp

@[simp] theorem deviceHalf_resp (w : Half) (s : State) : ((deviceHalf w s).2).resp = s.resp := by
  unfold deviceHalf; split <;> simp

@[simp] theorem deviceHalf_respValid (w : Half) (s : State) : ((deviceHalf w s).2).respValid = s.respValid := by
  unfold deviceHalf; split <;> simp

@[simp] theorem deviceHalf_csN (w : Half) (s : State) : ((deviceHalf w s).2).csN = s.csN := by
  unfold deviceHalf; split <;> simp

@[simp] theorem deviceHalf_csOe (w : Half) (s : State) : ((deviceHalf w s).2).csOe = s.csOe := by
  unfold deviceHalf; split <;> simp

@[simp] theorem deviceHalf_seq (w : Half) (s : State) : ((deviceHalf w s).2).seq = s.seq := by
  unfold deviceHalf; split <;> simp

@[simp] theorem deviceHalf_b (w : Half) (s : State) : ((deviceHalf w s).2).b = s.b := by
  unfold deviceHalf; split <;> simp

@[simp] theorem deviceHalf_result (w : Half) (s : State) : ((deviceHalf w s).2).result = s.result := by
  unfold deviceHalf; split <;> simp

@[simp] theorem deviceHalf_params (w : Half) (s : State) : ((deviceHalf w s).2).params = s.params := by
  unfold deviceHalf; split <;> simp

@[simp] theorem deviceHalf_history (w : Half) (s : State) : ((deviceHalf w s).2).history = s.history := by
  unfold deviceHalf; split <;> simp

/-! ... and its environment -/

@[simp] theorem deviceHalf_env_cmds (w : Half) (s : State) : ((deviceHalf w s).2).env.cmds = s.env.cmds := by
  unfold deviceHalf; split <;> simp

@[simp] theorem deviceHalf_env_pin (w : Half) (s : State) : ((deviceHalf w s).2).env.pin = s.env.pin := by
  unfold deviceHalf; split <;> simp

@[simp] theorem deviceHalf_env_poutReady (w : Half) (s : State) : ((deviceHalf w s).2).env.poutReady = s.env.poutReady := by
  unfold deviceHalf; split <;> simp

@[simp] theorem deviceHalf_env_spiAck (w : Half) (s : State) : ((deviceHalf w s).2).env.spiAck = s.env.spiAck := by
  unfold deviceHalf; split <;> simp

@[simp] theorem deviceHalf_env_now (w : Half) (s : State) : ((deviceHalf w s).2).env.now = s.env.now := by
  unfold deviceHalf; split <;> simp

@[simp] theorem deviceHalf_env_ticks (w : Half) (s : State) : ((deviceHalf w s).2).env.ticks = s.env.ticks := by
  unfold deviceHalf; split <;> simp

@[simp] theorem deviceHalf_env_rst (w : Half) (s : State) : ((deviceHalf w s).2).env.rst = s.env.rst := by
  unfold deviceHalf; split <;> simp

@[simp] theorem deviceHalf_env_session (w : Half) (s : State) : ((deviceHalf w s).2).env.session = s.env.session := by
  unfold deviceHalf; split <;> simp

/-! The clock's advance -/

@[simp] theorem nextTick_init (s : State) : ((nextTick s).2).init = s.init := by
  unfold nextTick; split <;> rfl

@[simp] theorem nextTick_csId (s : State) : ((nextTick s).2).csId = s.csId := by
  unfold nextTick; split <;> rfl

@[simp] theorem nextTick_clkHz (s : State) : ((nextTick s).2).clkHz = s.clkHz := by
  unfold nextTick; split <;> rfl

@[simp] theorem nextTick_cw (s : State) : ((nextTick s).2).cw = s.cw := by
  unfold nextTick; split <;> rfl

@[simp] theorem nextTick_cur (s : State) : ((nextTick s).2).cur = s.cur := by
  unfold nextTick; split <;> rfl

@[simp] theorem nextTick_rem (s : State) : ((nextTick s).2).rem = s.rem := by
  unfold nextTick; split <;> rfl

@[simp] theorem nextTick_nb (s : State) : ((nextTick s).2).nb = s.nb := by
  unfold nextTick; split <;> rfl

@[simp] theorem nextTick_cnt (s : State) : ((nextTick s).2).cnt = s.cnt := by
  unfold nextTick; split <;> rfl

@[simp] theorem nextTick_sr (s : State) : ((nextTick s).2).sr = s.sr := by
  unfold nextTick; split <;> rfl

@[simp] theorem nextTick_t0 (s : State) : ((nextTick s).2).t0 = s.t0 := by
  unfold nextTick; split <;> rfl

@[simp] theorem nextTick_el (s : State) : ((nextTick s).2).el = s.el := by
  unfold nextTick; split <;> rfl

@[simp] theorem nextTick_rdata (s : State) : ((nextTick s).2).rdata = s.rdata := by
  unfold nextTick; split <;> rfl

@[simp] theorem nextTick_resp (s : State) : ((nextTick s).2).resp = s.resp := by
  unfold nextTick; split <;> rfl

@[simp] theorem nextTick_respValid (s : State) : ((nextTick s).2).respValid = s.respValid := by
  unfold nextTick; split <;> rfl

@[simp] theorem nextTick_csN (s : State) : ((nextTick s).2).csN = s.csN := by
  unfold nextTick; split <;> rfl

@[simp] theorem nextTick_csOe (s : State) : ((nextTick s).2).csOe = s.csOe := by
  unfold nextTick; split <;> rfl

@[simp] theorem nextTick_seq (s : State) : ((nextTick s).2).seq = s.seq := by
  unfold nextTick; split <;> rfl

@[simp] theorem nextTick_b (s : State) : ((nextTick s).2).b = s.b := by
  unfold nextTick; split <;> rfl

@[simp] theorem nextTick_result (s : State) : ((nextTick s).2).result = s.result := by
  unfold nextTick; split <;> rfl

@[simp] theorem nextTick_params (s : State) : ((nextTick s).2).params = s.params := by
  unfold nextTick; split <;> rfl

@[simp] theorem nextTick_dev (s : State) : ((nextTick s).2).dev = s.dev := by
  unfold nextTick; split <;> rfl

@[simp] theorem nextTick_history (s : State) : ((nextTick s).2).history = s.history := by
  unfold nextTick; split <;> rfl

/-! ... and its environment -/

@[simp] theorem nextTick_env_cmds (s : State) : ((nextTick s).2).env.cmds = s.env.cmds := by
  unfold nextTick; split <;> rfl

@[simp] theorem nextTick_env_pin (s : State) : ((nextTick s).2).env.pin = s.env.pin := by
  unfold nextTick; split <;> rfl

@[simp] theorem nextTick_env_poutReady (s : State) : ((nextTick s).2).env.poutReady = s.env.poutReady := by
  unfold nextTick; split <;> rfl

@[simp] theorem nextTick_env_spiAck (s : State) : ((nextTick s).2).env.spiAck = s.env.spiAck := by
  unfold nextTick; split <;> rfl

@[simp] theorem nextTick_env_miso (s : State) : ((nextTick s).2).env.miso = s.env.miso := by
  unfold nextTick; split <;> rfl

@[simp] theorem nextTick_env_now (s : State) : ((nextTick s).2).env.now = s.env.now := by
  unfold nextTick; split <;> rfl

@[simp] theorem nextTick_env_rst (s : State) : ((nextTick s).2).env.rst = s.env.rst := by
  unfold nextTick; split <;> rfl

@[simp] theorem nextTick_env_session (s : State) : ((nextTick s).2).env.session = s.env.session := by
  unfold nextTick; split <;> rfl

/-! NOW() -/

@[simp] theorem sampleTime_init (s : State) : (sampleTime s).init = s.init := by
  simp [sampleTime]

@[simp] theorem sampleTime_csId (s : State) : (sampleTime s).csId = s.csId := by
  simp [sampleTime]

@[simp] theorem sampleTime_clkHz (s : State) : (sampleTime s).clkHz = s.clkHz := by
  simp [sampleTime]

@[simp] theorem sampleTime_cw (s : State) : (sampleTime s).cw = s.cw := by
  simp [sampleTime]

@[simp] theorem sampleTime_cur (s : State) : (sampleTime s).cur = s.cur := by
  simp [sampleTime]

@[simp] theorem sampleTime_rem (s : State) : (sampleTime s).rem = s.rem := by
  simp [sampleTime]

@[simp] theorem sampleTime_nb (s : State) : (sampleTime s).nb = s.nb := by
  simp [sampleTime]

@[simp] theorem sampleTime_cnt (s : State) : (sampleTime s).cnt = s.cnt := by
  simp [sampleTime]

@[simp] theorem sampleTime_sr (s : State) : (sampleTime s).sr = s.sr := by
  simp [sampleTime]

@[simp] theorem sampleTime_t0 (s : State) : (sampleTime s).t0 = s.t0 := by
  simp [sampleTime]

@[simp] theorem sampleTime_el (s : State) : (sampleTime s).el = s.el := by
  simp [sampleTime]

@[simp] theorem sampleTime_rdata (s : State) : (sampleTime s).rdata = s.rdata := by
  simp [sampleTime]

@[simp] theorem sampleTime_resp (s : State) : (sampleTime s).resp = s.resp := by
  simp [sampleTime]

@[simp] theorem sampleTime_respValid (s : State) : (sampleTime s).respValid = s.respValid := by
  simp [sampleTime]

@[simp] theorem sampleTime_csN (s : State) : (sampleTime s).csN = s.csN := by
  simp [sampleTime]

@[simp] theorem sampleTime_csOe (s : State) : (sampleTime s).csOe = s.csOe := by
  simp [sampleTime]

@[simp] theorem sampleTime_seq (s : State) : (sampleTime s).seq = s.seq := by
  simp [sampleTime]

@[simp] theorem sampleTime_b (s : State) : (sampleTime s).b = s.b := by
  simp [sampleTime]

@[simp] theorem sampleTime_result (s : State) : (sampleTime s).result = s.result := by
  simp [sampleTime]

@[simp] theorem sampleTime_params (s : State) : (sampleTime s).params = s.params := by
  simp [sampleTime]

@[simp] theorem sampleTime_dev (s : State) : (sampleTime s).dev = s.dev := by
  simp [sampleTime]

@[simp] theorem sampleTime_history (s : State) : (sampleTime s).history = .time (nextSample s) :: s.history := by
  simp [sampleTime]

/-! ... and its environment -/

@[simp] theorem sampleTime_env_cmds (s : State) : (sampleTime s).env.cmds = s.env.cmds := by
  simp [sampleTime]

@[simp] theorem sampleTime_env_pin (s : State) : (sampleTime s).env.pin = s.env.pin := by
  simp [sampleTime]

@[simp] theorem sampleTime_env_poutReady (s : State) : (sampleTime s).env.poutReady = s.env.poutReady := by
  simp [sampleTime]

@[simp] theorem sampleTime_env_spiAck (s : State) : (sampleTime s).env.spiAck = s.env.spiAck := by
  simp [sampleTime]

@[simp] theorem sampleTime_env_miso (s : State) : (sampleTime s).env.miso = s.env.miso := by
  simp [sampleTime]

@[simp] theorem sampleTime_env_now (s : State) : (sampleTime s).env.now = nextSample s := by
  simp [sampleTime]

@[simp] theorem sampleTime_env_rst (s : State) : (sampleTime s).env.rst = s.env.rst := by
  simp [sampleTime]

@[simp] theorem sampleTime_env_session (s : State) : (sampleTime s).env.session = s.env.session := by
  simp [sampleTime]

end Sys2Proof.Machine
end

