-- ==== Sys2Proof/Laws/Ops.lean ====
section
/-! SUPPORT. Each shared operation once: what its next state can be. -/

namespace Sys2Proof.Machine

/-- A next state is the one it is. -/
theorem next_eq_iff {a t : State} : (Host.Outcome.next a : Out) = .next t ↔ t = a := by
  constructor
  · intro h; cases h; rfl
  · rintro rfl; rfl

/-- An 8-bit exchange goes on exactly when the transport acknowledges (R35, R53). -/
theorem x8_next {v : Byte} {s t : State} {k : Byte → State → State} :
    x8 v s k = .next t ↔
      s.env.spiAck = true ∧ t = k (deviceByte v s).1 ((deviceByte v s).2.emit (.xfer8 v (deviceByte v s).1)) := by
  unfold x8
  split <;> simp [*, next_eq_iff, -Host.Outcome.next.injEq]

/-- A 16-bit exchange goes on exactly when the transport acknowledges (R35, R53). -/
theorem x16_next {w : Half} {s t : State} {k : Half → State → State} :
    x16 w s k = .next t ↔
      s.env.spiAck = true ∧
        t = k (deviceHalf w s).1 ((deviceHalf w s).2.emit (.xfer16 w (deviceHalf w s).1)) := by
  unfold x16
  split <;> simp [*, next_eq_iff, -Host.Outcome.next.injEq]

/-- POP() goes on exactly when the host offers a byte (R27). -/
theorem popByte_next {s t : State} {k : Byte → State → State} :
    popByte s k = .next t ↔
      ∃ v rest, s.env.pin = v :: rest ∧
        t = k v ({ s with env := { s.env with pin := rest } }.emit (.pop v)) := by
  unfold popByte
  split <;> simp [*, next_eq_iff, -Host.Outcome.next.injEq]

/-- PUSH(b) goes on exactly when the host takes the byte (R27). -/
theorem pushByte_next {v : Byte} {s t : State} {k : State → State} :
    pushByte v s k = .next t ↔ s.env.poutReady = true ∧ t = k (s.emit (.push v)) := by
  unfold pushByte
  split <;> simp [*, next_eq_iff, -Host.Outcome.next.injEq]

/-- Acceptance happens exactly when the host presents a command (R28, R52). -/
theorem acceptCommand_next {s t : State} :
    acceptCommand s = .next t ↔
      ∃ w rest, s.env.cmds = w :: rest ∧ t = latch w { s with env := { s.env with cmds := rest } } := by
  unfold acceptCommand
  split <;> simp [*, next_eq_iff, -Host.Outcome.next.injEq]

/-- The checks of a legal command other than BEGIN (R235). -/
theorem checkAndDispatch_next {oob : Bool} {go : State → State} {s t : State} :
    checkAndDispatch oob go s = .next t ↔
      (s.init = false ∧ t = raise .rejNotInit s) ∨
      (s.init = true ∧ (s.params.boundsCheck && oob) = true ∧ t = raise .outOfRange s) ∨
      (s.init = true ∧ (s.params.boundsCheck && oob) = false ∧ t = go s) := by
  unfold checkAndDispatch
  cases hi : s.init <;> cases hb : (s.params.boundsCheck && oob) <;> simp [next_eq_iff, -Host.Outcome.next.injEq]

/-- An illegal word's steps (R127, R235). -/
theorem illegalWord_next {s t : State} :
    illegalWord s = .next t ↔
      (s.seq = .accept ∧ t = raise .rejIllegal s) ∨ (s.seq = .resp ∧ t = respond s) := by
  cases hs : s.seq <;> simp [illegalWord, hs, next_eq_iff, -Host.Outcome.next.injEq]

/-- POLL(), one clause a phase (R150). -/
theorem poll_next {ready : State → State} {s t : State} :
    poll ready s = .next t ↔
      (s.seq = .pT0 ∧ t = { sampleTime s with t0 := nextSample s, seq := .pCsl }) ∨
      (s.seq = .pCsl ∧ t = (csAssert s).goto .pCmd) ∨
      (s.seq = .pCmd ∧ s.env.spiAck = true ∧
        t = ((deviceByte Config.opRdsr s).2.emit
          (.xfer8 Config.opRdsr (deviceByte Config.opRdsr s).1)).goto .pSr) ∨
      (s.seq = .pSr ∧ s.env.spiAck = true ∧
        t = { (deviceByte Config.dummyByte s).2.emit
            (.xfer8 Config.dummyByte (deviceByte Config.dummyByte s).1) with
          sr := (deviceByte Config.dummyByte s).1, seq := .pTime }) ∨
      (s.seq = .pTime ∧
        t = { sampleTime s with
          el := nextSample s - s.t0
          seq := if pollContinues s.params s.sr (nextSample s - s.t0) then .pSr else .pCsh }) ∨
      (s.seq = .pCsh ∧ wipSet s.sr = true ∧ t = raise .busy (csDeassert s)) ∨
      (s.seq = .pCsh ∧ wipSet s.sr = false ∧ t = ready (csDeassert s)) := by
  cases hs : s.seq <;> simp [poll, hs, x8_next, next_eq_iff, -Host.Outcome.next.injEq]
  cases hw : wipSet s.sr <;> simp

/-- WREN_SEQ(), one clause a phase (R170). -/
theorem wrenSeq_next {s t : State} :
    wrenSeq s = .next t ↔
      (s.seq = .eCsl ∧ t = (csAssert s).goto .eCmd) ∨
      (s.seq = .eCmd ∧ s.env.spiAck = true ∧
        t = ((deviceByte Config.opWren s).2.emit
          (.xfer8 Config.opWren (deviceByte Config.opWren s).1)).goto .eCsh) ∨
      (s.seq = .eCsh ∧ t = (csDeassert s).goto .fCsl) := by
  cases hs : s.seq <;> simp [wrenSeq, hs, x8_next, next_eq_iff, -Host.Outcome.next.injEq]

/-- WRDI_SEQ(), one clause a phase (R172). -/
theorem wrdiSeq_next {s t : State} :
    wrdiSeq s = .next t ↔
      (s.seq = .wrdiCsl ∧ t = (csAssert s).goto .wrdiCmd) ∨
      (s.seq = .wrdiCmd ∧ s.env.spiAck = true ∧
        t = ((deviceByte Config.opWrdi s).2.emit
          (.xfer8 Config.opWrdi (deviceByte Config.opWrdi s).1)).goto .wrdiCsh) ∨
      (s.seq = .wrdiCsh ∧ t = (csDeassert s).goto .idle) := by
  cases hs : s.seq <;> simp [wrdiSeq, hs, x8_next, next_eq_iff, -Host.Outcome.next.injEq]

/-- FRAME(cmd, a) with its CS_ASSERT(), one clause a phase (R110). -/
theorem frame_next {cmd : Byte} {a : Addr} {after : State → State} {s t : State} :
    frame cmd a after s = .next t ↔
      (s.seq = .fCsl ∧ t = (csAssert s).goto .fW1) ∨
      (s.seq = .fW1 ∧ s.env.spiAck = true ∧
        t = ((deviceHalf (frameW1 cmd a) s).2.emit
          (.xfer16 (frameW1 cmd a) (deviceHalf (frameW1 cmd a) s).1)).goto .fW2) ∨
      (s.seq = .fW2 ∧ s.env.spiAck = true ∧
        t = after ((deviceHalf (frameW2 a) s).2.emit
          (.xfer16 (frameW2 a) (deviceHalf (frameW2 a) s).1))) := by
  cases hs : s.seq <;> simp [frame, hs, x16_next, next_eq_iff, -Host.Outcome.next.injEq]

/-- A-NEXT's three outcomes (R203). -/
theorem pageAdvance_cases (s : State) :
    (s.rem = 0#24 ∧ pageAdvance s = finish s) ∨
    (s.rem ≠ 0#24 ∧ Config.numPages ≤ page s.cur.toNat ∧ pageAdvance s = raise .outOfRange s) ∨
    (s.rem ≠ 0#24 ∧ page s.cur.toNat < Config.numPages ∧
      pageAdvance s = { s with nb := burstLength s.cur s.rem, seq := .pT0 }) := by
  unfold pageAdvance
  by_cases h : s.rem = 0#24
  · simp [h]
  · by_cases h2 : Config.numPages ≤ page s.cur.toNat
    · simp [h, h2]
    · simp [h, h2, Nat.not_le.1 h2]

theorem respWord_toNat (sr : Byte) (cnt : BitVec 24) (rdata : Byte) (r : Result) :
    (respWord sr cnt rdata r).toNat =
      sr.toNat * 2 ^ 40 + cnt.toNat * 2 ^ 16 + rdata.toNat * 2 ^ 8 + r.code.toNat := by
  simp only [respWord, toNat_append_eq, BitVec.toNat_ofNat]
  omega

/-- The fields of a response word (R130, R135). -/
theorem respWord_fields (sr : Byte) (cnt : BitVec 24) (rdata : Byte) (r : Result) :
    respResult (respWord sr cnt rdata r) = r.code ∧ respBytesDone (respWord sr cnt rdata r) = cnt ∧
    respLastSr (respWord sr cnt rdata r) = sr ∧ respRdata (respWord sr cnt rdata r) = rdata ∧
    respReservedClear (respWord sr cnt rdata r) = true := by
  have h1 := sr.isLt
  have h2 := cnt.isLt
  have h3 := rdata.isLt
  have h4 := r.code.isLt
  rw [respReservedClear, Bool.and_eq_true, beq_iff_eq, beq_iff_eq, respResult, respBytesDone, respLastSr, respRdata]
  refine ⟨?_, ?_, ?_, ?_, ?_, ?_⟩ <;> apply BitVec.eq_of_toNat_eq <;>
    simp only [toNat_extract, respWord_toNat, BitVec.toNat_ofNat] <;> omega

/-- The memory after an exchanged byte (R87). -/
theorem deviceByte_mem_wf {s : State} (v : Byte) (h : s.dev.mem.wf = true) :
    ((deviceByte v s).2).dev.mem.wf = true := by
  have hr := Device.receive_wf v h
  unfold deviceByte
  split
  · split
    · rename_i b d heq
      simpa [heq] using hr
    · rename_i d heq
      simpa [heq] using hr
  · simpa using h

/-- The memory after an exchanged word (R77, R87). -/
theorem deviceHalf_mem_wf {s : State} (w : Half) (h : s.dev.mem.wf = true) :
    ((deviceHalf w s).2).dev.mem.wf = true := by
  unfold deviceHalf
  split
  · exact deviceByte_mem_wf _ (deviceByte_mem_wf _ h)
  · simpa using h

/-- The device's bytes after an exchanged byte (R87). -/
theorem deviceByte_later (v : Byte) (s : State) : s.dev.Later (deviceByte v s).2.dev := by
  have hr := s.dev.receive_later v
  unfold deviceByte
  split
  · split
    · rename_i heq; rwa [heq] at hr
    · rename_i heq; rw [heq] at hr; simpa using hr
  · simpa using Device.Later.refl _

/-- The device's bytes after an exchanged word (R77, R87). -/
theorem deviceHalf_later (w : Half) (s : State) : s.dev.Later (deviceHalf w s).2.dev := by
  unfold deviceHalf
  split
  · exact (deviceByte_later _ _).trans (deviceByte_later _ _)
  · simpa using Device.Later.refl _

end Sys2Proof.Machine
end

