-- ==== Sys2Proof/Laws/Step.lean ====
section
/-! SUPPORT. Everything one step can do, said once: `step_engineStep`. -/

namespace Sys2Proof.Machine

/-- The commands that poll (R158). -/
def polls : Instr → Bool
  | .begin _ _ => false
  | .writeByte _ _ => true
  | .readByte _ => true
  | .writeArray _ _ => true
  | .readArray _ _ => true
  | .waitReady => true
  | .wren => false
  | .wrdi => false
  | .rdsr => false
  | .wrsr => false
  | .read _ => false
  | .write _ => false

/-- The commands that send WREN and WRITE (R171). -/
def writes : Instr → Bool
  | .writeByte _ _ | .writeArray _ _ => true
  | _ => false

/-- The commands that send READ (R185, R210). -/
def reads : Instr → Bool
  | .readByte _ | .readArray _ _ => true
  | _ => false

/-- R236, by instruction. -/
def instrOutOfBounds : Instr → Bool
  | .writeByte addr _ => byteOutOfBounds addr
  | .readByte addr => byteOutOfBounds addr
  | .readArray addr len => readArrayOutOfBounds addr len
  | _ => false

/-- After ACCEPT (R51). -/
def dispatchOf : Instr → State → State
  | .writeArray addr len => fun s => { s with cur := addr.setWidth 25, rem := len, seq := .aNext }
  | .readArray _ len => fun s => { s with rem := len, seq := .pT0 }
  | _ => fun s => s.goto .pT0

/-- After P_CSH with WIP clear (R51). -/
def afterPoll : Instr → State → State
  | .waitReady => finish
  | .writeByte _ _ | .writeArray _ _ => fun s => s.goto .eCsl
  | _ => fun s => s.goto .fCsl

/-- The instruction byte of a command's frame. -/
def frameCmdOf : Instr → Byte
  | .writeByte _ _ | .writeArray _ _ => Config.opWrite
  | _ => Config.opRead

/-- The address of a command's frame, at a state. -/
def frameAddrOf : Instr → State → Addr
  | .writeByte addr _ => fun _ => addr
  | .readByte addr => fun _ => addr
  | .writeArray _ _ => fun s => s.curAddr
  | .readArray addr _ => fun _ => addr
  | _ => fun _ => 0#24

/-- After F_W2 (R51). -/
def afterFrame : Instr → State → State
  | .writeByte _ data => loadData data
  | .writeArray _ _ => fun s => s.goto .dPop
  | .readArray _ _ => readOrClose
  | _ => fun s => s.goto .dRx

/-- After F_CSH (R51). -/
def afterClose : Instr → State → State
  | .writeArray _ _ => fun s => s.goto .aNext
  | _ => finish

/-- What ACCEPT's dispatch is (R51). -/
theorem dispatchOf_cases (i : Instr) (s : State) :
    dispatchOf i s = s.goto .pT0 ∨
    (∃ addr len, i = .writeArray addr len ∧
      dispatchOf i s = { s with cur := addr.setWidth 25, rem := len, seq := .aNext }) ∨
    (∃ addr len, i = .readArray addr len ∧ dispatchOf i s = { s with rem := len, seq := .pT0 }) := by
  cases i <;> simp [dispatchOf]

/-- Where a poll that ends with WIP clear goes (R51). -/
theorem afterPoll_cases (i : Instr) (s : State) :
    (i = .waitReady ∧ afterPoll i s = finish s) ∨
    (writes i = true ∧ afterPoll i s = s.goto .eCsl) ∨
    (i ≠ .waitReady ∧ writes i = false ∧ afterPoll i s = s.goto .fCsl) := by
  cases i <;> simp [afterPoll, writes]

/-- Where a frame goes on (R51). -/
theorem afterFrame_cases (i : Instr) (s : State) :
    (∃ addr data, i = .writeByte addr data ∧ afterFrame i s = { s with b := data, seq := .dTx }) ∨
    (∃ addr len, i = .writeArray addr len ∧ afterFrame i s = s.goto .dPop) ∨
    (∃ addr len, i = .readArray addr len ∧ s.rem = 0#24 ∧ afterFrame i s = s.goto .fCsh) ∨
    (∃ addr len, i = .readArray addr len ∧ s.rem ≠ 0#24 ∧ afterFrame i s = s.goto .dRx) ∨
    (writes i = false ∧ (∀ addr len, i ≠ .readArray addr len) ∧ afterFrame i s = s.goto .dRx) := by
  cases i <;> simp [afterFrame, loadData, readOrClose, writes]
  split <;> simp [*]

/-- Where an access goes after its CS_DEASSERT() (R51). -/
theorem afterClose_cases (i : Instr) (s : State) :
    (∃ addr len, i = .writeArray addr len ∧ afterClose i s = s.goto .aNext) ∨
    ((∀ addr len, i ≠ .writeArray addr len) ∧ afterClose i s = finish s) := by
  cases i <;> simp [afterClose]

/-- Every transition of the engine, one constructor a line of R50 and R51 (and of R235 for ACCEPT). -/
inductive EngineStep (s : State) : State → Prop where
  | reset (hr : s.env.rst ≠ 0) : EngineStep s (resetStep s)
  | take (hr : s.env.rst = 0) (hs : s.seq = .idle) (w : Word64) (rest : List Word64)
      (hc : s.env.cmds = w :: rest) :
      EngineStep s (latch w { s with env := { s.env with cmds := rest } })
  | respond (hr : s.env.rst = 0) (hs : s.seq = .resp) : EngineStep s (respond s)
  | rejectIllegal (hr : s.env.rst = 0) (hs : s.seq = .accept) (e : DecodeError)
      (hd : decode (.host s.cw) = .error e) : EngineStep s (raise .rejIllegal s)
  | rejectClock (hr : s.env.rst = 0) (hs : s.seq = .accept) (csid : CsId)
      (hd : decode (.host s.cw) = .ok (.begin csid 0#32)) : EngineStep s (raise .rejIllegal s)
  | rejectAgain (hr : s.env.rst = 0) (hs : s.seq = .accept) (csid : CsId) (clkhz : Hertz)
      (hd : decode (.host s.cw) = .ok (.begin csid clkhz)) (hz : clkhz ≠ 0#32) (hi : s.init = true) :
      EngineStep s (raise .rejAlreadyInit s)
  | startBegin (hr : s.env.rst = 0) (hs : s.seq = .accept) (csid : CsId) (clkhz : Hertz)
      (hd : decode (.host s.cw) = .ok (.begin csid clkhz)) (hz : clkhz ≠ 0#32) (hi : s.init = false) :
      EngineStep s (s.goto .bCscfg)
  | rejectNotInit (hr : s.env.rst = 0) (hs : s.seq = .accept) (i : Instr) (hd : decode (.host s.cw) = .ok i)
      (hp : polls i = true) (hi : s.init = false) : EngineStep s (raise .rejNotInit s)
  | rejectBounds (hr : s.env.rst = 0) (hs : s.seq = .accept) (i : Instr) (hd : decode (.host s.cw) = .ok i)
      (hp : polls i = true) (hi : s.init = true) (hb : (s.params.boundsCheck && instrOutOfBounds i) = true) :
      EngineStep s (raise .outOfRange s)
  | start (hr : s.env.rst = 0) (hs : s.seq = .accept) (i : Instr) (hd : decode (.host s.cw) = .ok i)
      (hp : polls i = true) (hi : s.init = true) (hb : (s.params.boundsCheck && instrOutOfBounds i) = false) :
      EngineStep s (dispatchOf i s)
  | beginCsConfig (hr : s.env.rst = 0) (hs : s.seq = .bCscfg) (csid : CsId) (clkhz : Hertz)
      (hd : decode (.host s.cw) = .ok (.begin csid clkhz)) :
      EngineStep s ({ csConfig csid s with clkHz := clkhz }.goto .bCsh)
  | beginCsHigh (hr : s.env.rst = 0) (hs : s.seq = .bCsh) (csid : CsId) (clkhz : Hertz)
      (hd : decode (.host s.cw) = .ok (.begin csid clkhz)) : EngineStep s ((csDeassert s).goto .bSpicfg)
  | beginSpiConfig (hr : s.env.rst = 0) (hs : s.seq = .bSpicfg) (csid : CsId) (clkhz : Hertz)
      (hd : decode (.host s.cw) = .ok (.begin csid clkhz)) :
      EngineStep s (finish { spiConfig s.clkHz s with init := true })
  | pollStart (hr : s.env.rst = 0) (hs : s.seq = .pT0) (i : Instr) (hd : decode (.host s.cw) = .ok i)
      (hp : polls i = true) : EngineStep s { sampleTime s with t0 := nextSample s, seq := .pCsl }
  | pollOpen (hr : s.env.rst = 0) (hs : s.seq = .pCsl) (i : Instr) (hd : decode (.host s.cw) = .ok i)
      (hp : polls i = true) : EngineStep s ((csAssert s).goto .pCmd)
  | pollCommand (hr : s.env.rst = 0) (hs : s.seq = .pCmd) (i : Instr) (hd : decode (.host s.cw) = .ok i)
      (hp : polls i = true) (ha : s.env.spiAck = true) :
      EngineStep s (((deviceByte Config.opRdsr s).2.emit
        (.xfer8 Config.opRdsr (deviceByte Config.opRdsr s).1)).goto .pSr)
  | pollStatus (hr : s.env.rst = 0) (hs : s.seq = .pSr) (i : Instr) (hd : decode (.host s.cw) = .ok i)
      (hp : polls i = true) (ha : s.env.spiAck = true) :
      EngineStep s { (deviceByte Config.dummyByte s).2.emit
          (.xfer8 Config.dummyByte (deviceByte Config.dummyByte s).1) with
        sr := (deviceByte Config.dummyByte s).1, seq := .pTime }
  | pollTime (hr : s.env.rst = 0) (hs : s.seq = .pTime) (i : Instr) (hd : decode (.host s.cw) = .ok i)
      (hp : polls i = true) :
      EngineStep s { sampleTime s with
        el := nextSample s - s.t0
        seq := if pollContinues s.params s.sr (nextSample s - s.t0) then .pSr else .pCsh }
  | pollBusy (hr : s.env.rst = 0) (hs : s.seq = .pCsh) (i : Instr) (hd : decode (.host s.cw) = .ok i)
      (hp : polls i = true) (hw : wipSet s.sr = true) : EngineStep s (raise .busy (csDeassert s))
  | pollReady (hr : s.env.rst = 0) (hs : s.seq = .pCsh) (i : Instr) (hd : decode (.host s.cw) = .ok i)
      (hp : polls i = true) (hw : wipSet s.sr = false) : EngineStep s (afterPoll i (csDeassert s))
  | wrenOpen (hr : s.env.rst = 0) (hs : s.seq = .eCsl) (i : Instr) (hd : decode (.host s.cw) = .ok i)
      (hp : writes i = true) : EngineStep s ((csAssert s).goto .eCmd)
  | wrenCommand (hr : s.env.rst = 0) (hs : s.seq = .eCmd) (i : Instr) (hd : decode (.host s.cw) = .ok i)
      (hp : writes i = true) (ha : s.env.spiAck = true) :
      EngineStep s (((deviceByte Config.opWren s).2.emit
        (.xfer8 Config.opWren (deviceByte Config.opWren s).1)).goto .eCsh)
  | wrenClose (hr : s.env.rst = 0) (hs : s.seq = .eCsh) (i : Instr) (hd : decode (.host s.cw) = .ok i)
      (hp : writes i = true) : EngineStep s ((csDeassert s).goto .fCsl)
  | frameOpen (hr : s.env.rst = 0) (hs : s.seq = .fCsl) (i : Instr) (hd : decode (.host s.cw) = .ok i)
      (hp : (writes i || reads i) = true) : EngineStep s ((csAssert s).goto .fW1)
  | frameFirst (hr : s.env.rst = 0) (hs : s.seq = .fW1) (i : Instr) (hd : decode (.host s.cw) = .ok i)
      (hp : (writes i || reads i) = true) (ha : s.env.spiAck = true) :
      EngineStep s (((deviceHalf (frameW1 (frameCmdOf i) (frameAddrOf i s)) s).2.emit
        (.xfer16 (frameW1 (frameCmdOf i) (frameAddrOf i s))
          (deviceHalf (frameW1 (frameCmdOf i) (frameAddrOf i s)) s).1)).goto .fW2)
  | frameSecond (hr : s.env.rst = 0) (hs : s.seq = .fW2) (i : Instr) (hd : decode (.host s.cw) = .ok i)
      (hp : (writes i || reads i) = true) (ha : s.env.spiAck = true) :
      EngineStep s (afterFrame i ((deviceHalf (frameW2 (frameAddrOf i s)) s).2.emit
        (.xfer16 (frameW2 (frameAddrOf i s)) (deviceHalf (frameW2 (frameAddrOf i s)) s).1)))
  | sendByte (hr : s.env.rst = 0) (hs : s.seq = .dTx) (addr : Addr) (data : Byte)
      (hd : decode (.host s.cw) = .ok (.writeByte addr data)) (ha : s.env.spiAck = true) :
      EngineStep s { (deviceByte s.b s).2.emit (.xfer8 s.b (deviceByte s.b s).1) with
        cnt := 1#24, seq := .fCsh }
  | receiveByte (hr : s.env.rst = 0) (hs : s.seq = .dRx) (addr : Addr)
      (hd : decode (.host s.cw) = .ok (.readByte addr)) (ha : s.env.spiAck = true) :
      EngineStep s { (deviceByte Config.dummyByte s).2.emit
          (.xfer8 Config.dummyByte (deviceByte Config.dummyByte s).1) with
        b := (deviceByte Config.dummyByte s).1
        rdata := (deviceByte Config.dummyByte s).1
        cnt := 1#24
        seq := .fCsh }
  | pop (hr : s.env.rst = 0) (hs : s.seq = .dPop) (addr : Addr) (len : Len)
      (hd : decode (.host s.cw) = .ok (.writeArray addr len)) (v : Byte) (rest : List Byte)
      (hc : s.env.pin = v :: rest) :
      EngineStep s { { s with env := { s.env with pin := rest } }.emit (.pop v) with b := v, seq := .dTx }
  | sendArrayByte (hr : s.env.rst = 0) (hs : s.seq = .dTx) (addr : Addr) (len : Len)
      (hd : decode (.host s.cw) = .ok (.writeArray addr len)) (ha : s.env.spiAck = true) :
      EngineStep s { (deviceByte s.b s).2.emit (.xfer8 s.b (deviceByte s.b s).1) with
        cur := s.cur + 1#25
        rem := s.rem - 1#24
        nb := s.nb - 1#10
        cnt := s.cnt + 1#24
        seq := if s.nb - 1#10 = 0#10 then .fCsh else .dPop }
  | receiveArrayByte (hr : s.env.rst = 0) (hs : s.seq = .dRx) (addr : Addr) (len : Len)
      (hd : decode (.host s.cw) = .ok (.readArray addr len)) (ha : s.env.spiAck = true) :
      EngineStep s { (deviceByte Config.dummyByte s).2.emit
          (.xfer8 Config.dummyByte (deviceByte Config.dummyByte s).1) with
        b := (deviceByte Config.dummyByte s).1, seq := .dPush }
  | push (hr : s.env.rst = 0) (hs : s.seq = .dPush) (addr : Addr) (len : Len)
      (hd : decode (.host s.cw) = .ok (.readArray addr len)) (hc : s.env.poutReady = true) :
      EngineStep s { s.emit (.push s.b) with
        rem := s.rem - 1#24
        cnt := s.cnt + 1#24
        seq := if s.rem - 1#24 = 0#24 then .fCsh else .dRx }
  | close (hr : s.env.rst = 0) (hs : s.seq = .fCsh) (i : Instr) (hd : decode (.host s.cw) = .ok i)
      (hp : (writes i || reads i) = true) : EngineStep s (afterClose i (csDeassert s))
  | pageAdvance (hr : s.env.rst = 0) (hs : s.seq = .aNext) (addr : Addr) (len : Len)
      (hd : decode (.host s.cw) = .ok (.writeArray addr len)) : EngineStep s (pageAdvance s)
  | wrdiOpen (hr : s.env.rst = 0) (hs : s.seq = .wrdiCsl) : EngineStep s ((csAssert s).goto .wrdiCmd)
  | wrdiCommand (hr : s.env.rst = 0) (hs : s.seq = .wrdiCmd) (ha : s.env.spiAck = true) :
      EngineStep s (((deviceByte Config.opWrdi s).2.emit
        (.xfer8 Config.opWrdi (deviceByte Config.opWrdi s).1)).goto .wrdiCsh)
  | wrdiClose (hr : s.env.rst = 0) (hs : s.seq = .wrdiCsh) : EngineStep s ((csDeassert s).goto .idle)

/-- The step of a state that is in IDLE. -/
theorem step_idle {s : State} (hr : s.env.rst = 0) (hs : s.seq = .idle) : step s = acceptCommand s := by
  simp [step, hr, hs]

/-- The step of a state whose latched word is an instruction (R50, R51). -/
theorem step_exec {s : State} {i : Instr} (hr : s.env.rst = 0) (hs : s.seq ≠ .idle) (hb : isBare s.seq = false)
    (hd : decode (.host s.cw) = .ok i) : step s = exec i s := by
  unfold step
  rw [if_neg (by simp [hr])]
  cases h : s.seq <;> simp_all [instrInFlight, isBare]

/-- The step of a state whose latched word is no instruction (R125, R235). -/
theorem step_illegal {s : State} {e : DecodeError} (hr : s.env.rst = 0) (hs : s.seq ≠ .idle)
    (hb : isBare s.seq = false) (hd : decode (.host s.cw) = .error e) : step s = illegalWord s := by
  unfold step
  rw [if_neg (by simp [hr])]
  cases h : s.seq <;> simp_all [instrInFlight, isBare]

theorem execBegin_engineStep {s t : State} {csid : CsId} {clkhz : Hertz} (hr : s.env.rst = 0)
    (hd : decode (.host s.cw) = .ok (.begin csid clkhz)) (h : execBegin csid clkhz s = .next t) :
    EngineStep s t := by
  unfold execBegin at h
  cases hs : s.seq <;> simp only [hs, next_eq_iff, reduceCtorEq] at h
  · split at h
    · rename_i hz
      subst hz
      rw [next_eq_iff] at h
      subst h
      exact .rejectClock hr hs csid hd
    · rename_i hz
      split at h <;> rename_i hi <;> rw [next_eq_iff] at h <;> subst h
      · exact .rejectAgain hr hs csid clkhz hd hz hi
      · exact .startBegin hr hs csid clkhz hd hz (by simpa using hi)
  · subst h; exact .beginCsConfig hr hs csid clkhz hd
  · subst h; exact .beginCsHigh hr hs csid clkhz hd
  · subst h; exact .beginSpiConfig hr hs csid clkhz hd
  · subst h; exact .respond hr hs

theorem checkAndDispatch_engineStep {s t : State} {i : Instr} (hr : s.env.rst = 0) (hs : s.seq = .accept)
    (hd : decode (.host s.cw) = .ok i) (hp : polls i = true)
    (h : checkAndDispatch (instrOutOfBounds i) (dispatchOf i) s = .next t) : EngineStep s t := by
  rcases checkAndDispatch_next.1 h with ⟨hi, rfl⟩ | ⟨hi, hb, rfl⟩ | ⟨hi, hb, rfl⟩
  · exact .rejectNotInit hr hs i hd hp hi
  · exact .rejectBounds hr hs i hd hp hi hb
  · exact .start hr hs i hd hp hi hb

theorem poll_engineStep {s t : State} {i : Instr} (hr : s.env.rst = 0) (hd : decode (.host s.cw) = .ok i)
    (hp : polls i = true) (h : poll (afterPoll i) s = .next t) : EngineStep s t := by
  rcases poll_next.1 h with ⟨hs, rfl⟩ | ⟨hs, rfl⟩ | ⟨hs, ha, rfl⟩ | ⟨hs, ha, rfl⟩ | ⟨hs, rfl⟩ | ⟨hs, hw, rfl⟩ |
    ⟨hs, hw, rfl⟩
  · exact .pollStart hr hs i hd hp
  · exact .pollOpen hr hs i hd hp
  · exact .pollCommand hr hs i hd hp ha
  · exact .pollStatus hr hs i hd hp ha
  · exact .pollTime hr hs i hd hp
  · exact .pollBusy hr hs i hd hp hw
  · exact .pollReady hr hs i hd hp hw

theorem wrenSeq_engineStep {s t : State} {i : Instr} (hr : s.env.rst = 0) (hd : decode (.host s.cw) = .ok i)
    (hp : writes i = true) (h : wrenSeq s = .next t) : EngineStep s t := by
  rcases wrenSeq_next.1 h with ⟨hs, rfl⟩ | ⟨hs, ha, rfl⟩ | ⟨hs, rfl⟩
  · exact .wrenOpen hr hs i hd hp
  · exact .wrenCommand hr hs i hd hp ha
  · exact .wrenClose hr hs i hd hp

theorem frame_engineStep {s t : State} {i : Instr} (hr : s.env.rst = 0) (hd : decode (.host s.cw) = .ok i)
    (hp : (writes i || reads i) = true)
    (h : frame (frameCmdOf i) (frameAddrOf i s) (afterFrame i) s = .next t) : EngineStep s t := by
  rcases frame_next.1 h with ⟨hs, rfl⟩ | ⟨hs, ha, rfl⟩ | ⟨hs, ha, rfl⟩
  · exact .frameOpen hr hs i hd hp
  · exact .frameFirst hr hs i hd hp ha
  · exact .frameSecond hr hs i hd hp ha

theorem execWriteByte_engineStep {s t : State} {addr : Addr} {data : Byte} (hr : s.env.rst = 0)
    (hd : decode (.host s.cw) = .ok (.writeByte addr data)) (h : execWriteByte addr data s = .next t) :
    EngineStep s t := by
  unfold execWriteByte at h
  cases hs : s.seq <;> simp only [hs, next_eq_iff, reduceCtorEq] at h
  case accept => exact checkAndDispatch_engineStep hr hs hd rfl h
  case pT0 | pCsl | pCmd | pSr | pTime | pCsh => exact poll_engineStep hr hd rfl h
  case eCsl | eCmd | eCsh => exact wrenSeq_engineStep hr hd rfl h
  case fCsl | fW1 | fW2 => exact frame_engineStep hr hd rfl h
  case dTx =>
    obtain ⟨ha, rfl⟩ := x8_next.1 h
    exact .sendByte hr hs addr data hd ha
  case fCsh => subst h; exact .close hr hs _ hd rfl
  case resp => subst h; exact .respond hr hs

theorem execReadByte_engineStep {s t : State} {addr : Addr} (hr : s.env.rst = 0)
    (hd : decode (.host s.cw) = .ok (.readByte addr)) (h : execReadByte addr s = .next t) : EngineStep s t := by
  unfold execReadByte at h
  cases hs : s.seq <;> simp only [hs, next_eq_iff, reduceCtorEq] at h
  case accept => exact checkAndDispatch_engineStep hr hs hd rfl h
  case pT0 | pCsl | pCmd | pSr | pTime | pCsh => exact poll_engineStep hr hd rfl h
  case fCsl | fW1 | fW2 => exact frame_engineStep hr hd rfl h
  case dRx =>
    obtain ⟨ha, rfl⟩ := x8_next.1 h
    exact .receiveByte hr hs addr hd ha
  case fCsh => subst h; exact .close hr hs _ hd rfl
  case resp => subst h; exact .respond hr hs

theorem execWriteArray_engineStep {s t : State} {addr : Addr} {len : Len} (hr : s.env.rst = 0)
    (hd : decode (.host s.cw) = .ok (.writeArray addr len)) (h : execWriteArray addr len s = .next t) :
    EngineStep s t := by
  unfold execWriteArray at h
  cases hs : s.seq <;> simp only [hs, next_eq_iff, reduceCtorEq] at h
  case accept => exact checkAndDispatch_engineStep hr hs hd rfl h
  case pT0 | pCsl | pCmd | pSr | pTime | pCsh => exact poll_engineStep hr hd rfl h
  case eCsl | eCmd | eCsh => exact wrenSeq_engineStep hr hd rfl h
  case fCsl | fW1 | fW2 => exact frame_engineStep hr hd rfl h
  case dPop =>
    obtain ⟨v, rest, hc, rfl⟩ := popByte_next.1 h
    exact .pop hr hs addr len hd v rest hc
  case dTx =>
    obtain ⟨ha, rfl⟩ := x8_next.1 h
    exact .sendArrayByte hr hs addr len hd ha
  case fCsh => subst h; exact .close hr hs _ hd rfl
  case aNext => subst h; exact .pageAdvance hr hs addr len hd
  case resp => subst h; exact .respond hr hs

theorem execReadArray_engineStep {s t : State} {addr : Addr} {len : Len} (hr : s.env.rst = 0)
    (hd : decode (.host s.cw) = .ok (.readArray addr len)) (h : execReadArray addr len s = .next t) :
    EngineStep s t := by
  unfold execReadArray at h
  cases hs : s.seq <;> simp only [hs, next_eq_iff, reduceCtorEq] at h
  case accept => exact checkAndDispatch_engineStep hr hs hd rfl h
  case pT0 | pCsl | pCmd | pSr | pTime | pCsh => exact poll_engineStep hr hd rfl h
  case fCsl | fW1 | fW2 => exact frame_engineStep hr hd rfl h
  case dRx =>
    obtain ⟨ha, rfl⟩ := x8_next.1 h
    exact .receiveArrayByte hr hs addr len hd ha
  case dPush =>
    obtain ⟨hc, rfl⟩ := pushByte_next.1 h
    exact .push hr hs addr len hd hc
  case fCsh => subst h; exact .close hr hs _ hd rfl
  case resp => subst h; exact .respond hr hs

theorem execWaitReady_engineStep {s t : State} (hr : s.env.rst = 0)
    (hd : decode (.host s.cw) = .ok .waitReady) (h : execWaitReady s = .next t) : EngineStep s t := by
  unfold execWaitReady at h
  cases hs : s.seq <;> simp only [hs, next_eq_iff, reduceCtorEq] at h
  case accept => exact checkAndDispatch_engineStep hr hs hd rfl h
  case pT0 | pCsl | pCmd | pSr | pTime | pCsh => exact poll_engineStep hr hd rfl h
  case resp => subst h; exact .respond hr hs

/-- Everything one step can do (R50, R51, R235, R260). -/
theorem step_engineStep {s t : State} (h : step s = .next t) : EngineStep s t := by
  by_cases hr : s.env.rst = 0
  · by_cases hi : s.seq = .idle
    · rw [step_idle hr hi] at h
      obtain ⟨w, rest, hc, rfl⟩ := acceptCommand_next.1 h
      exact .take hr hi w rest hc
    · cases hb : isBare s.seq
      · cases hd : decode (.host s.cw) with
        | error e =>
          rw [step_illegal hr hi hb hd] at h
          rcases illegalWord_next.1 h with ⟨hs, rfl⟩ | ⟨hs, rfl⟩
          · exact .rejectIllegal hr hs e hd
          · exact .respond hr hs
        | ok i =>
          rw [step_exec hr hi hb hd] at h
          rcases decode_host_cases hd with ⟨-, rfl⟩ | ⟨-, rfl⟩ | ⟨-, rfl⟩ | ⟨-, rfl⟩ | ⟨-, rfl⟩ | ⟨-, rfl⟩
          · exact execBegin_engineStep hr hd h
          · exact execWriteByte_engineStep hr hd h
          · exact execReadByte_engineStep hr hd h
          · exact execWriteArray_engineStep hr hd h
          · exact execReadArray_engineStep hr hd h
          · exact execWaitReady_engineStep hr hd h
      · unfold step at h
        rw [if_neg (by simp [hr])] at h
        cases hs : s.seq <;> simp [hs, isBare] at hb <;>
          simp [hs, instrInFlight, exec, execWrdi, execWrsr] at h
        all_goals
          rcases wrdiSeq_next.1 h with ⟨h1, rfl⟩ | ⟨h1, ha, rfl⟩ | ⟨h1, rfl⟩
          · exact .wrdiOpen hr h1
          · exact .wrdiCommand hr h1 ha
          · exact .wrdiClose hr h1
  · unfold step at h
    rw [if_pos hr, next_eq_iff] at h
    subst h
    exact .reset hr

end Sys2Proof.Machine
end

