-- ==== Sys2Proof/Laws/Agents.lean ====
section
/-! SUPPORT. A run of the engine among the other agents: what an index hands to the next one. -/

namespace Sys2Proof.Machine

/-- Every register of the engine is the same: a state told by the environment and the device alone. -/
theorem SameEngine.eq {s t : State} (h : SameEngine s t) : t = { s with env := t.env, dev := t.dev } := h.1

theorem SameEngine.seq {s t : State} (h : SameEngine s t) : t.seq = s.seq := by rw [h.eq]

theorem SameEngine.cw {s t : State} (h : SameEngine s t) : t.cw = s.cw := by rw [h.eq]

theorem SameEngine.rem {s t : State} (h : SameEngine s t) : t.rem = s.rem := by rw [h.eq]

theorem SameEngine.nb {s t : State} (h : SameEngine s t) : t.nb = s.nb := by rw [h.eq]

theorem SameEngine.cur {s t : State} (h : SameEngine s t) : t.cur = s.cur := by rw [h.eq]

theorem SameEngine.t0 {s t : State} (h : SameEngine s t) : t.t0 = s.t0 := by rw [h.eq]

theorem SameEngine.params {s t : State} (h : SameEngine s t) : t.params = s.params := by rw [h.eq]

theorem SameEngine.history {s t : State} (h : SameEngine s t) : t.history = s.history := by rw [h.eq]

theorem SameEngine.resp {s t : State} (h : SameEngine s t) : t.resp = s.resp := by rw [h.eq]

theorem SameEngine.respValid {s t : State} (h : SameEngine s t) : t.respValid = s.respValid := by rw [h.eq]

theorem SameEngine.trans {s t u : State} (h : SameEngine s t) (g : SameEngine t u) : SameEngine s u := by
  refine ⟨?_, g.2.1.trans h.2.1, g.2.2⟩
  have h1 := g.eq
  rw [h.eq] at h1
  exact h1

/-- No index of a run is a reset. -/
theorem AgentsRun.rst {r : Nat → State} (h : AgentsRun r) (k : Nat) : (r k).env.rst = 0 := by
  cases k with
  | zero => exact h.1
  | succ k =>
    rcases h.2 k with ⟨t, -, hs⟩ | ⟨-, hs⟩
    · exact hs.2.2
    · exact hs.2.2

/-- Where the engine has a step, the next index is that step's state, but for the other agents. -/
theorem AgentsRun.stepped {r : Nat → State} (h : AgentsRun r) {k : Nat} {t : State} (hs : step (r k) = .next t) :
    SameEngine t (r (k + 1)) := by
  rcases h.2 k with ⟨u, hu, he⟩ | ⟨hn, -⟩
  · rw [hs] at hu
    cases hu
    exact he
  · exact absurd hs (hn t)

/-- Where the engine waits, the next index is the same state, but for the other agents. -/
theorem AgentsRun.waited {r : Nat → State} (h : AgentsRun r) {k : Nat} (hs : ∀ t, step (r k) ≠ .next t) :
    SameEngine (r k) (r (k + 1)) := by
  rcases h.2 k with ⟨u, hu, -⟩ | ⟨-, he⟩
  · exact absurd hu (hs u)
  · exact he

/-- A wait that some index ends: the first such index finds the engine as it was. -/
theorem AgentsRun.waitEnds {r : Nat → State} (h : AgentsRun r) {k : Nat} {ends : State → Prop}
    (hw : ∀ j, k ≤ j → SameEngine (r k) (r j) → ¬ends (r j) → ∀ t, step (r j) ≠ .next t)
    (he : ∃ j, k ≤ j ∧ ends (r j)) : ∃ j, k ≤ j ∧ SameEngine (r k) (r j) ∧ ends (r j) := by
  obtain ⟨m, hm, hend⟩ := he
  by_contra hno
  have still : ∀ n, SameEngine (r k) (r (k + n)) := by
    intro n
    induction n with
    | zero => exact ⟨rfl, rfl, h.rst k⟩
    | succ n ih =>
      exact ih.trans (h.waited (hw (k + n) (by omega) ih (fun hx => hno ⟨k + n, by omega, ih, hx⟩)))
  have hk := still (m - k)
  rw [show k + (m - k) = m by omega] at hk
  exact hno ⟨m, hm, hk, hend⟩

end Sys2Proof.Machine
end

