-- ==== Sys2Proof/Laws/History.lean ====
section
/-! SUPPORT. How the projections of the history grow by one event. -/

namespace Sys2Proof.Machine

theorem ne_open_of_opensTransaction {h : List Event} (hf : opensTransaction h = false) (rest : List Event) :
    h ≠ .cs false :: rest := by
  rintro rfl
  simp [opensTransaction] at hf

/-- A history that ends with a Cs(0), or does not. -/
theorem opensTransaction_iff (h : List Event) :
    opensTransaction h = true ↔ ∃ rest, h = .cs false :: rest := by
  constructor
  · intro ho
    unfold opensTransaction at ho
    split at ho
    · exact ⟨_, rfl⟩
    · simp at ho
  · rintro ⟨rest, rfl⟩
    rfl

/-- An event that exchanges nothing adds no instruction byte (R77). -/
theorem instructionBytes_other {e : Event} {h : List Event} (h8 : ∀ v m, e ≠ .xfer8 v m)
    (h16 : ∀ w m, e ≠ .xfer16 w m) : instructionBytes (e :: h) = instructionBytes h :=
  instructionBytes.eq_4 _ _ (fun v m _ he _ => h8 v m he) (fun w m _ he _ => h16 w m he)

/-- An exchange that does not come right after a Cs(0) adds no instruction byte (R77). -/
theorem instructionBytes_inside {e : Event} {h : List Event} (hf : opensTransaction h = false) :
    instructionBytes (e :: h) = instructionBytes h :=
  instructionBytes.eq_4 _ _ (fun _ _ r _ hr => ne_open_of_opensTransaction hf r hr)
    (fun _ _ r _ hr => ne_open_of_opensTransaction hf r hr)

/-- Every instruction byte after an 8-bit exchange is its own or an earlier one (R77). -/
theorem mem_instructionBytes_xfer8 {v m c : Byte} {h : List Event}
    (hc : c ∈ instructionBytes (.xfer8 v m :: h)) : c = v ∨ c ∈ instructionBytes h := by
  by_cases ho : opensTransaction h = true
  · obtain ⟨rest, rfl⟩ := (opensTransaction_iff h).1 ho
    rw [instructionBytes_other (e := .cs false) (by simp) (by simp)]
    rw [instructionBytes] at hc
    simpa using hc
  · rw [instructionBytes_inside (by simpa using ho)] at hc
    exact .inr hc

/-- Every instruction byte after a 16-bit exchange is its high byte or an earlier one (R76, R77). -/
theorem mem_instructionBytes_xfer16 {w m : Half} {c : Byte} {h : List Event}
    (hc : c ∈ instructionBytes (.xfer16 w m :: h)) : c = highByte w ∨ c ∈ instructionBytes h := by
  by_cases ho : opensTransaction h = true
  · obtain ⟨rest, rfl⟩ := (opensTransaction_iff h).1 ho
    rw [instructionBytes_other (e := .cs false) (by simp) (by simp)]
    rw [instructionBytes] at hc
    simpa using hc
  · rw [instructionBytes_inside (by simpa using ho)] at hc
    exact .inr hc

/-- An event that is no 16-bit exchange leaves every WRITE frame as armed as before (R171). -/
theorem writesArmed_other {e : Event} {h : List Event} (h16 : ∀ w m, e ≠ .xfer16 w m) :
    writesArmed (e :: h) = writesArmed h := by
  conv => lhs; unfold writesArmed
  split
  · exact absurd rfl (h16 _ _)
  · simp

/-- A 16-bit exchange inside a transaction opens no WRITE frame (R110, R171). -/
theorem writesArmed_inside {w m : Half} {h : List Event} (hf : opensTransaction h = false) :
    writesArmed (.xfer16 w m :: h) = writesArmed h := by
  conv => lhs; unfold writesArmed
  split
  · exact absurd rfl (ne_open_of_opensTransaction hf _)
  · simp

/-- A WREN transaction after a poll that returned OK arms the next frame (R171). -/
theorem armed_wren {m : Byte} {h : List Event} (hp : pollEnd h = true) :
    armed (.cs true :: .xfer8 Config.opWren m :: .cs false :: h) = true := by
  simp [armed, hp]

/-- The end of a poll, as P_CSH finds it: OK when the last status byte has WIP = 0 (R153). -/
theorem pollEnd_iff {t : Millis} {st : Byte} {h : List Event} :
    pollEnd (.cs true :: .time t :: .xfer8 Config.dummyByte st :: h) = true ↔ wipSet st = false := by
  simp [pollEnd]

end Sys2Proof.Machine
end

