-- ==== Sys2Proof/Tests/Slice0.lean ====
section
/-! SUPPORT. Tests: ill-formed terms refused, words decoded, one-step checks from spec/95_test_vectors.md and the
operation files, and for every statement with hypotheses a state that meets them. -/

namespace Sys2Proof.Tests

open Sys2Proof Sys2Proof.Machine Sys2Proof.Claims

/-! WellFormed: an ill-formed term for each check. -/

theorem test_wf_timeout_zero : ({ Params.default with busyTimeoutMs := 0#32 } : Params).wf = false := by decide
theorem test_wf_params_default : Params.default.wf = true := by decide
theorem test_wf_asm_begin_csid : (AsmLine.begin 256 1).wf = false := by decide
theorem test_wf_asm_begin_hz : (AsmLine.begin 0 4294967296).wf = false := by decide
theorem test_wf_asm_wrb_addr : (AsmLine.wrb 16777216 0).wf = false := by decide
theorem test_wf_asm_wrb_data : (AsmLine.wrb 0 256).wf = false := by decide
theorem test_wf_asm_rdb_addr : (AsmLine.rdb 16777216).wf = false := by decide
theorem test_wf_asm_wra_addr : (AsmLine.wra 16777216 0).wf = false := by decide
theorem test_wf_asm_wra_len : (AsmLine.wra 0 16777216).wf = false := by decide
theorem test_wf_asm_rda_addr : (AsmLine.rda 16777216 0).wf = false := by decide
theorem test_wf_asm_rda_len : (AsmLine.rda 0 16777216).wf = false := by decide
theorem test_wf_asm_wrad_addr : (AsmLine.wrad 16777216 []).wf = false := by decide
theorem test_wf_asm_wrad_byte : (AsmLine.wrad 0 [1, 256]).wf = false := by decide
theorem test_wf_asm_wrad : (AsmLine.wrad 0x7FFFF [0xAA, 255]).wf = true := by decide

/-! Decoding: words written out field by field from R120 and R110 (reserved, operands, reserved, OP). -/

/-- CLKHZ = 1000000, CSID = 3, OP = 1 (R129). -/
theorem test_decode_begin :
    decode (.host (0x000F4240#32 ++ 0x0000#16 ++ 0x03#8 ++ 0x0#4 ++ 0x1#4)) = .ok (.begin 3#8 1000000#32) := by decide
/-- DATA = 0xAB, ADDR = 0x012345, OP = 2 (R129). -/
theorem test_decode_writeByte :
    decode (.host (0x00#8 ++ 0x0000#16 ++ 0xAB#8 ++ 0x012345#24 ++ 0x0#4 ++ 0x2#4)) =
      .ok (.writeByte 0x012345#24 0xAB#8) := by decide
/-- ADDR = 0x012345, OP = 3 (R129). -/
theorem test_decode_readByte : decode (.host 0x0000000001234503#64) = .ok (.readByte 0x012345#24) := by decide
/-- LEN = 600, ADDR = 400, OP = 4 (R129). -/
theorem test_decode_writeArray :
    decode (.host (0x00#8 ++ 0x000258#24 ++ 0x000190#24 ++ 0x0#4 ++ 0x4#4)) = .ok (.writeArray 400#24 600#24) := by
  decide
/-- LEN = 32, ADDR = 0x7FFF0, OP = 5 (R129). -/
theorem test_decode_readArray :
    decode (.host 0x0000002007FFF005#64) = .ok (.readArray 0x07FFF0#24 32#24) := by decide
/-- OP = 6 alone (R129). -/
theorem test_decode_waitReady : decode (.host 0x6#64) = .ok .waitReady := by decide
/-- R100: WREN is 0x06. -/
theorem test_decode_wren : decode (.spi8 0b00000110#8) = .ok .wren := by decide
/-- R100: WRDI is 0x04. -/
theorem test_decode_wrdi : decode (.spi8 0b00000100#8) = .ok .wrdi := by decide
/-- R100: RDSR is 0x05. -/
theorem test_decode_rdsr : decode (.spi8 0b00000101#8) = .ok .rdsr := by decide
/-- R100: WRSR is 0x01. -/
theorem test_decode_wrsr : decode (.spi8 0b00000001#8) = .ok .wrsr := by decide
/-- R110: READ's frame at 510 is 0x0300, 0x01FE (R210's example). -/
theorem test_decode_read : decode (.spi32 0x0300#16 0x01FE#16) = .ok (.read 510#24) := by decide
/-- R110: WRITE's frame at 400 is 0x0200, 0x0190 (R206). -/
theorem test_decode_write : decode (.spi32 0x0200#16 0x0190#16) = .ok (.write 400#24) := by decide

/-- R127: OP 0x0 is no no-op. -/
theorem test_decode_zero : decode (.host 0#64) = .error .reservedOp := by decide
theorem test_decode_op_seven : decode (.host 7#64) = .error .reservedOp := by decide
/-- R125: one reserved bit of each format. -/
theorem test_decode_reserved :
    [0x10011#64, 0x0000010000000002#64, 0x0000000100000003#64, 0x0100000000000004#64, 0x15#64, 0x106#64].map
      (fun w => decode (.host w)) = List.replicate 6 (.error .reservedBits) := by decide
/-- R91, R108: a byte that is none of the six codes. -/
theorem test_decode_unknown_code : decode (.spi8 0x9F#8) = .error .unknownCode := by decide
/-- R110: 0x02 as one byte is no instruction. -/
theorem test_decode_wrong_length : decode (.spi8 0x02#8) = .error .wrongLength := by decide

theorem test_table_word_begin : decodeTableWord 64 0x000F424000000301 = some (.begin 3#8 1000000#32) := by decide
theorem test_table_word_wren : decodeTableWord 8 0x06 = some .wren := by decide
theorem test_table_word_write : decodeTableWord 32 0x02012345 = some (.write 0x012345#24) := by decide
theorem test_table_word_illegal : decodeTableWord 64 0 = none := by decide

/-! The assembler (R129). -/

theorem test_asm_word : asmWord (.wrb 0x012345 0xAB) = 0x000000AB01234502#64 := by decide
theorem test_asm_parse : parseLine "wra 400, 600 ; a comment".toList = some (some (.wra 400 600)) := by decide
theorem test_asm_parse_hex : parseLine "rdb 0x012345".toList = some (some (.rdb 0x012345)) := by decide
theorem test_asm_parse_range : parseLine "wrb 0, 256".toList = none := by decide

/-! One step. -/

/-- A ready machine: initialised, the transport answering from `miso`. -/
def ready (miso : List Half) : State :=
  { State.reset with
    init := true, csId := 3#8, clkHz := 1000000#32, csOe := true
    env := { Env.initial with miso := miso, ticks := [1, 1, 1, 1] } }

/-- The ready machine with a command latched and a phase next. -/
def placed (p : Phase) (w : Word64) (miso : List Half) : State :=
  { ready miso with cw := w, seq := p }

/-- The next state, if there is one. -/
def nextOf (o : Out) : Option State :=
  match o with
  | .next t => some t
  | _ => none

/-- R141: B_CSCFG writes both configuration registers. -/
theorem test_begin_csConfig :
    (nextOf (exec (.begin 7#8 9#32) { placed .bCscfg 0#64 [] with init := false })).map
      (fun t => (t.csId, t.clkHz, t.csOe, t.seq, t.history)) =
      some (7#8, 9#32, true, .bCsh, [.csCfg 7#8]) := by decide
/-- R235: a BEGIN with `init` = 1. -/
theorem test_begin_again :
    (nextOf (exec (.begin 7#8 9#32) (placed .accept 0#64 []))).map (fun t => (t.result, t.seq)) =
      some (.rejAlreadyInit, .resp) := by decide
/-- R152: WIP set and 1 ms below the timeout of 10: the poll goes on. -/
theorem test_waitReady_continues :
    (nextOf (exec .waitReady { placed .pTime 6#64 [] with sr := 1#8, env := { Env.initial with ticks := [9] } })).map
      (fun t => (t.el, t.seq)) = some (9#32, .pSr) := by decide
/-- R152, R153: at exactly the timeout the poll ends. -/
theorem test_waitReady_timeout :
    (nextOf (exec .waitReady { placed .pTime 6#64 [] with sr := 1#8, env := { Env.initial with ticks := [10] } })).map
      (fun t => (t.el, t.seq)) = some (10#32, .pCsh) := by decide
/-- R103: the status byte is the low byte answered. -/
theorem test_rdsr_status :
    (nextOf (exec .rdsr (placed .pSr 6#64 [0xAB03#16]))).map (fun t => (t.sr, t.seq, t.history)) =
      some (0x03#8, .pTime, [.xfer8 0#8 3#8]) := by decide
/-- R160: WAIT_READY ends with OK after an OK poll. -/
theorem test_rdsr_ready :
    (nextOf (exec .rdsr (placed .pCsh 6#64 []))).map (fun t => (t.result, t.seq, t.csN)) =
      some (.ok, .resp, true) := by decide
/-- R170: WREN sends 0x06 and discards the answer. -/
theorem test_wren_command :
    (nextOf (exec .wren (placed .eCmd 2#64 [0x55#16]))).map (fun t => (t.seq, t.history, t.sr, t.b)) =
      some (.eCsh, [.xfer8 6#8 0x55#8], 0#8, 0#8) := by decide
/-- R172: WRDI sends 0x04. -/
theorem test_wrdi_command :
    (nextOf (exec .wrdi (placed .wrdiCmd 0#64 [0#16]))).map (fun t => (t.seq, t.history)) =
      some (.wrdiCsh, [.xfer8 4#8 0#8]) := by decide
/-- R104. -/
theorem test_wrsr_refused : exec .wrsr (placed .wrsr 0#64 []) = .refused .wrsrNoSemantics := rfl
/-- R110, R180: the first frame word of `wrb 0x012345, 0xAB`. -/
theorem test_writeByte_frame :
    (nextOf (exec (.writeByte 0x012345#24 0xAB#8) (placed .fW1 0x000000AB01234502#64 [0#16]))).map
      (fun t => (t.seq, t.history)) = some (.fW2, [.xfer16 0x0201#16 0#16]) := by decide
/-- R180: the data byte goes out once and `cnt` becomes 1. -/
theorem test_writeByte_data :
    (nextOf (exec (.writeByte 0#24 0xAB#8) { placed .dTx 2#64 [0#16] with b := 0xAB#8 })).map
      (fun t => (t.cnt, t.seq, t.history)) = some (1#24, .fCsh, [.xfer8 0xAB#8 0#8]) := by decide
/-- R185: the captured byte is `rdata`. -/
theorem test_readByte_data :
    (nextOf (exec (.readByte 0#24) (placed .dRx 3#64 [0x7E#16]))).map (fun t => (t.rdata, t.cnt, t.seq)) =
      some (0x7E#8, 1#24, .fCsh) := by decide
/-- R236: READ_BYTE at CAPACITY under BOUNDS_CHECK. -/
theorem test_readByte_bounds :
    (nextOf (exec (.readByte 524288#24)
      { placed .accept 3#64 [] with params := { Params.default with boundsCheck := true } })).map
      (fun t => (t.result, t.seq)) = some (.outOfRange, .resp) := by decide
/-- R203, R206: 600 bytes from 400: the first burst has 112. -/
theorem test_writeArray_split :
    (nextOf (exec (.writeArray 400#24 600#24) { placed .aNext 4#64 [] with cur := 400#25, rem := 600#24 })).map
      (fun t => (t.nb, t.seq)) = some (112#10, .pT0) := by decide
/-- R203: the page after the last one. -/
theorem test_writeArray_end :
    (nextOf (exec (.writeArray 0#24 0#24) { placed .aNext 4#64 [] with cur := 524288#25, rem := 1#24 })).map
      (fun t => (t.result, t.seq)) = some (.outOfRange, .resp) := by decide
/-- R210: the last byte pushed ends the transfer. -/
theorem test_readArray_push :
    (nextOf (exec (.readArray 510#24 4#24) { placed .dPush 5#64 [] with b := 0x44#8, rem := 1#24, cnt := 3#24 })).map
      (fun t => (t.cnt, t.rem, t.seq, t.history)) = some (4#24, 0#24, .fCsh, [.push 0x44#8]) := by decide
/-- R212: with nothing to read the frame is followed by F_CSH. -/
theorem test_readArray_empty :
    (nextOf (exec (.readArray 510#24 0#24) (placed .fW2 5#64 [0#16]))).map (fun t => (t.seq, t.history)) =
      some (.fCsh, [.xfer16 0x01FE#16 0#16]) := by decide
/-- R105: READ's frame inside READ_BYTE. -/
theorem test_read_frame :
    (nextOf (exec (.read 0x07FFFF#24) (placed .fW1 3#64 [0#16]))).map (fun t => (t.seq, t.history)) =
      some (.fW2, [.xfer16 0x0307#16 0#16]) := by decide
/-- R107: the last byte of a burst. -/
theorem test_write_data :
    (nextOf (exec (.write 511#24) { placed .dTx 4#64 [0#16] with cur := 511#25, rem := 1#24, nb := 1#10, b := 9#8 })).map
      (fun t => (t.cur, t.rem, t.nb, t.cnt, t.seq)) = some (512#25, 0#24, 0#10, 1#24, .fCsh) := by decide
/-- R130: a response word's fields (R240's layout). -/
theorem test_resp_word : respWord 0x03#8 0x000102#24 0x7E#8 .ok = 0x0000030001027E00#64 := by decide

theorem test_withFetchWord :
    (State.reset.withFetchWord 64 0x0000000001234503).cw = 0x0000000001234503#64 ∧
    (State.reset.withFetchWord 64 0x0000000001234503).seq = .accept := by decide

/-! The reference device (R85 to R92). -/

/-- A device with WEL set and one byte stored. -/
def someDevice : Device :=
  { Device.initial with mode := .reference, wel := true, mem := [(511, 0x11#8)] }

theorem test_device_write :
    ((someDevice.transact [0x02#8, 0x00#8, 0x01#8, 0xFF#8, 0xAA#8]).2.pend,
     (someDevice.transact [0x02#8, 0x00#8, 0x01#8, 0xFF#8, 0xAA#8]).2.wip) = ([(511, 0xAA#8)], true) := by decide
/-- R90, U20: a burst that leaves its page. -/
theorem test_device_page_cross :
    (someDevice.transact [0x02#8, 0x00#8, 0x01#8, 0xFF#8, 0xAA#8, 0xBB#8]).2.faults = [.pageCrossed] := by decide
/-- R90, U21: a WRITE while WIP = 1, with no data byte. -/
theorem test_device_write_during_cycle :
    ({ someDevice with wip := true }.transact [0x02#8, 0x00#8, 0x01#8, 0xFF#8]).2.faults = [.writeDuringCycle] := by
  decide

/-! Memory. -/

theorem test_reset_memory : MemoryInv State.reset := by unfold MemoryInv; decide
theorem test_memory_write_back :
    Memory.write [(3, 1#8), (5, 2#8)] 3 0xFF#8 = [(5, 2#8)] := by decide

/-! Witnesses: for every statement with hypotheses, states and operands that meet them together. -/

/-- Clauses guarded by a phase and an acknowledge: PollPhases, WrenPhases, FramePhases, RespPhase, CloseAndFinish
and the data phases of BeginPerformsItsPhases, RdsrPerformsThePoll, WaitReadyPerformsItsPhases, WrenTransaction,
WrdiTransactionAndWrsrRefusal, ReadTransaction, WriteTransaction and the four Write/Read…PerformsItsPhases. -/
theorem witness_phase_clauses (p : Phase) (w : Word64) :
    (placed p w []).seq = p ∧ (placed p w []).env.spiAck = true ∧ (placed p w []).env.poutReady = true := by
  exact ⟨rfl, rfl, rfl⟩

/-- The two outcomes of P_CSH in PollPhases. -/
theorem witness_pCsh_outcomes :
    ({ placed .pCsh 6#64 [] with sr := 0xFF#8 }.seq = .pCsh ∧ ({ placed .pCsh 6#64 [] with sr := 0xFF#8 }.sr.getLsbD 0) = true) ∧
    ({ placed .pCsh 6#64 [] with sr := 0xFE#8 }.seq = .pCsh ∧ ({ placed .pCsh 6#64 [] with sr := 0xFE#8 }.sr.getLsbD 0) = false) := by
  decide

/-- The OP of each clause of RdsrPerformsThePoll, ReadTransaction and WriteTransaction. -/
theorem witness_ops :
    (placed .pT0 2#64 []).op = 0x2#4 ∧ (placed .pT0 3#64 []).op = 0x3#4 ∧ (placed .pT0 4#64 []).op = 0x4#4 ∧
    (placed .pT0 5#64 []).op = 0x5#4 ∧ (placed .pT0 6#64 []).op = 0x6#4 := by decide

/-- The ACCEPT clauses: in bounds at the last byte under BOUNDS_CHECK, and BEGIN's. -/
theorem witness_accept_clauses :
    (placed .accept 0#64 []).init = true ∧ (placed .accept 0#64 []).seq = .accept ∧
    ¬524288 ≤ (0x07FFFF#24).toNat ∧ ¬(524288 ≤ (0x07FFFF#24).toNat ∨ 524288 < (0x07FFFF#24).toNat + (1#24).toNat) ∧
    State.reset.init = false ∧ (1#32) ≠ 0#32 := by decide

/-- The D_POP clauses of WriteTransaction and WriteArrayPerformsItsPhases. -/
theorem witness_pop_clauses :
    { placed .dPop 4#64 [] with env := { Env.initial with pin := [7#8] } }.env.pin = 7#8 :: [] := by decide

theorem witness_DecodeOfEncodeIsTheInstruction : (Instr.writeByte 0xFFFFFF#24 0xFF#8).wf = true := by decide
theorem witness_EncodeOfDecodeIsTheWord :
    decode (.host 0xFFFFFFFF0000FF01#64) = .ok (.begin 0xFF#8 0xFFFFFFFF#32) ∧
    decode (.spi32 0x03FF#16 0xFFFF#16) = .ok (.read 0xFFFFFF#24) := by decide
/-- A legal and an illegal word: LEN's top bit, and the reserved bit above it. -/
theorem witness_LegalHostWordsAreTheTablesRows :
    hostWordLegal 0x0080000000000004#64 = true ∧ hostWordLegal 0x0100000000000004#64 = false := by decide
theorem witness_FramesOnTheWire : (0x07FFFF#24).toNat < 524288 := by decide
theorem witness_AssembledLinesDecode : (AsmLine.rda 0xFFFFFF 0xFFFFFF).wf = true := by decide

theorem witness_StepRunsTheDecodedInstruction :
    (placed .fW1 3#64 []).env.rst = 0 ∧ (placed .fW1 3#64 []).seq ≠ .idle ∧ isBare (placed .fW1 3#64 []).seq = false ∧
    decode (.host (placed .fW1 3#64 []).cw) = .ok (.readByte 0#24) ∧
    (placed .wrdiCmd 0#64 []).seq = .wrdiCmd ∧ (placed .wrsr 0#64 []).seq = .wrsr := by decide
theorem witness_HostCommandsSendTheDeviceInstructions :
    decode (.host (placed .pSr 6#64 []).cw) = .ok .waitReady ∧ isPollPhase (placed .pSr 6#64 []).seq = true ∧
    decode (.host (placed .eCmd 2#64 []).cw) = .ok (.writeByte 0#24 0#8) ∧ isWrenPhase (placed .eCmd 2#64 []).seq = true ∧
    decode (.host (placed .fW2 3#64 []).cw) = .ok (.readByte 0#24) ∧ isFramePhase (placed .fW2 3#64 []).seq = true ∧
    decode (.host (placed .dPop 4#64 []).cw) = .ok (.writeArray 0#24 0#24) ∧
    decode (.host (placed .dPush 5#64 []).cw) = .ok (.readArray 0#24 0#24) := by decide

/-- A machine in IDLE with two commands presented. -/
def offered : State := { ready [] with env := { Env.initial with cmds := [3#64, 6#64] } }

theorem witness_AcceptanceLatchesTheCommand :
    offered.env.rst = 0 ∧ offered.seq = .idle ∧ offered.env.cmds = 3#64 :: [6#64] := by decide
theorem witness_CommandsAreTakenOnlyInIdle :
    offered.env.cmds ≠ [] ∧ (∃ t, step (placed .eCsl 2#64 []) = .next t) ∧ (placed .eCsl 2#64 []).env.rst = 0 ∧
    (outPorts (placed .eCsl 2#64 [])).cmdReady = false ∧ { offered with env := { offered.env with rst := 1 } }.env.rst ≠ 0 :=
  ⟨by decide, ⟨_, rfl⟩, by decide, by decide, by decide⟩
/-- One state for each branch of the checks, at the boundary of the bounds check. -/
theorem witness_AcceptChecksInOrder :
    ([(false, 0x0#64), (false, 0x1#64), (true, 0x0000000100000001#64), (false, 0x3#64), (true, 0x0000000008000003#64),
      (true, 0x0000000107FFFF05#64), (true, 0x0000000207FFFF05#64)].map
      (fun c => (nextOf (step { placed .accept c.2 [] with
        init := c.1, params := { Params.default with boundsCheck := true } })).map (fun t => (t.result, t.seq)))) =
      [some (.rejIllegal, .resp), some (.rejIllegal, .resp), some (.rejAlreadyInit, .resp), some (.rejNotInit, .resp),
       some (.outOfRange, .resp), some (.ok, .pT0), some (.outOfRange, .resp)] := by decide
theorem witness_RespStepWritesTheResponse :
    (placed .resp 0#64 []).env.rst = 0 ∧ (placed .resp 0#64 []).seq = .resp := by decide
theorem witness_IllegalWordIsOnlyAnswered :
    (placed .accept 0x17#64 []).env.rst = 0 ∧ (placed .accept 0x17#64 []).seq = .accept ∧
    hostWordLegal (placed .accept 0x17#64 []).cw = false := by decide

/-- The reference device in a WRITE transaction whose address bytes it has, at the moment of reset. -/
def cutWrite : State :=
  { placed .dTx 2#64 [] with
    dev := { someDevice with sel := true, ins := 0x02#8, pos := 4, addr := 512#24 }
    env := { Env.initial with rst := 1 } }

theorem witness_ResetRestoresRegistersAndPorts : cutWrite.env.rst ≠ 0 := by decide
theorem witness_ResetTouchesOnlyCutPages :
    cutWrite.env.rst ≠ 0 ∧ (∃ t, step cutWrite = .next t) ∧
    (cutWrite.dev.mode = .reference ∧ cutWrite.dev.sel = true ∧ cutWrite.dev.ins = Config.opWrite ∧ 4 ≤ cutWrite.dev.pos) ∧
    511 / 512 < cutWrite.dev.addr.toNat / 512 ∧
    (cutWrite.dev.addr.toNat + max cutWrite.dev.data.length 1 - 1) / 512 < 1024 / 512 ∧
    ¬({ cutWrite with dev := someDevice }.dev.sel = true) :=
  ⟨by decide, ⟨_, rfl⟩, by decide, by decide, by decide, by decide⟩

/-- The engine before its first BEGIN, with `begin 3, 1000000` latched (R141's example). -/
def fresh : State := { State.reset with cw := 0x000F424000000301#64, seq := .accept }

theorem witness_BeginConfiguresTheEngine :
    fresh.env.rst = 0 ∧ fresh.seq = .accept ∧ (1000000#32) ≠ 0#32 ∧ fresh.init = false ∧
    fresh.cw = 1000000#32 ++ 0#16 ++ 3#8 ++ 0#4 ++ 0x1#4 ∧ fresh.sr = 0#8 ∧ fresh.cnt = 0#24 ∧ fresh.rdata = 0#8 ∧
    fresh.dev.sel = false := by decide
theorem witness_RejectedBegins :
    (placed .accept 0x0000000000000301#64 []).cw = 0#32 ++ 0#16 ++ 3#8 ++ 0#4 ++ 0x1#4 ∧
    (placed .accept 0x0000000100000301#64 []).cw = 1#32 ++ 0#16 ++ 3#8 ++ 0#4 ++ 0x1#4 ∧
    (placed .accept 0x0000000100000301#64 []).init = true ∧ (placed .accept 0x0000000100000301#64 []).env.rst = 0 ∧
    (placed .accept 0x0000000100000301#64 []).seq = .accept ∧ (1#32) ≠ 0#32 ∧
    (nextOf (step (placed .accept 0x0000000100000301#64 []))).isSome = true := by decide
/-- A step that writes the configuration, and one with `init` = 1. -/
theorem witness_ConfigurationIsWrittenOnce :
    phaseOwned { fresh with seq := .bCscfg } = true ∧
    (nextOf (step { fresh with seq := .bCscfg })).map (fun t => (t.csId, t.clkHz)) = some (3#8, 1000000#32) ∧
    phaseOwned (placed .eCsl 2#64 []) = true ∧ (nextOf (step (placed .eCsl 2#64 []))).isSome = true ∧
    (placed .eCsl 2#64 []).init = true := by decide

/-- A poll in P_TIME or P_SR with WIP set, the clock standing still and then advancing by the timeout. -/
def polling (p : Phase) : State :=
  { placed p 6#64 [1#16, 1#16, 1#16] with
    sr := 1#8, params := { Params.default with busyTimeoutMs := 2#32 }
    env := { Env.initial with miso := [1#16, 1#16, 1#16], ticks := [0, 2] } }

theorem witness_PollContinuesOnWipAndTime :
    (polling .pTime).env.rst = 0 ∧ (polling .pTime).seq = .pTime ∧
    decode (.host (polling .pTime).cw) = .ok .waitReady ∧ isPollingOp (polling .pTime).op = true := by decide
theorem witness_PollEndsUnderAnAdvancingClock :
    (polling .pSr).env.rst = 0 ∧ (polling .pSr).seq = .pSr ∧ decode (.host (polling .pSr).cw) = .ok .waitReady ∧
    isPollingOp (polling .pSr).op = true ∧ (polling .pSr).env.spiAck = true ∧ (polling .pSr).params.wf = true ∧
    (polling .pSr).params.busyTimeoutMs.toNat ≤ ((polling .pSr).env.ticks.take 2).sum ∧
    ((polling .pSr).env.now - (polling .pSr).t0).toNat + ((polling .pSr).env.ticks.take 2).sum < 2 ^ 32 := by decide

/-- A WAIT_READY to a busy device, in ACCEPT, its poll timing out at the first sample. -/
def timedOut : State :=
  { placed .accept 6#64 [0#16, 1#16] with env := { Env.initial with miso := [0#16, 1#16], ticks := [0, 10] } }

/-- The states of a run whose other agents change nothing: a waiting engine stays where it is. -/
def undisturbed (s : State) : Nat → State
  | 0 => s
  | k + 1 => (nextOf (step (undisturbed s k))).getD (undisturbed s k)

/-- After nine steps the command is answered and the engine waits in IDLE. -/
theorem undisturbed_idle (n : Nat) : undisturbed timedOut (9 + n) = undisturbed timedOut 9 := by
  induction n with
  | zero => rfl
  | succ n ih =>
    change (nextOf (step (undisturbed timedOut (9 + n)))).getD (undisturbed timedOut (9 + n)) = _
    rw [ih]
    decide

/-- What the other agents present at every index of that run. -/
theorem undisturbed_inputs (k : Nat) :
    (undisturbed timedOut k).env.rst = 0 ∧ (undisturbed timedOut k).env.spiAck = true ∧
    (undisturbed timedOut k).env.poutReady = true ∧ (outPorts (undisturbed timedOut k)).pinReady = false := by
  have early : ∀ j < 10, (undisturbed timedOut j).env.rst = 0 ∧ (undisturbed timedOut j).env.spiAck = true ∧
      (undisturbed timedOut j).env.poutReady = true ∧ (outPorts (undisturbed timedOut j)).pinReady = false := by
    decide
  by_cases hk : k < 10
  · exact early k hk
  · rw [show k = 9 + (k - 9) by omega, undisturbed_idle]
    exact early 9 (by omega)

theorem witness_EveryOperationEndsUnderTheDuties :
    AgentsRun (undisturbed timedOut) ∧ PlatformDuties (undisturbed timedOut) ∧
    (undisturbed timedOut 0).seq = .accept := by
  refine ⟨⟨rfl, fun k => ?_⟩, ⟨fun k _ => ⟨k, le_rfl, (undisturbed_inputs k).2.1⟩, fun k => ⟨9 + k, by omega, .inl ?_⟩,
    fun k h => ?_, fun k _ => ⟨k, le_rfl, (undisturbed_inputs k).2.2.1⟩⟩, rfl⟩
  · have hr := (undisturbed_inputs (k + 1)).1
    cases h : step (undisturbed timedOut k) with
    | next t =>
      have ht : undisturbed timedOut (k + 1) = t := by simp [undisturbed, h, nextOf]
      rw [ht] at hr ⊢
      exact .inl ⟨t, rfl, rfl, rfl, hr⟩
    | fault f =>
      have ht : undisturbed timedOut (k + 1) = undisturbed timedOut k := by simp [undisturbed, h, nextOf]
      rw [ht] at hr ⊢
      exact .inr ⟨by simp, rfl, rfl, hr⟩
    | refused f =>
      have ht : undisturbed timedOut (k + 1) = undisturbed timedOut k := by simp [undisturbed, h, nextOf]
      rw [ht] at hr ⊢
      exact .inr ⟨by simp, rfl, rfl, hr⟩
  · rw [undisturbed_idle]
    decide
  · rw [(undisturbed_inputs k).2.2.2] at h
    exact absurd h (by decide)
theorem witness_BusyEndsTheOperation :
    (polling .pCsh).env.rst = 0 ∧ (polling .pCsh).seq = .pCsh ∧ decode (.host (polling .pCsh).cw) = .ok .waitReady ∧
    isPollingOp (polling .pCsh).op = true ∧ (polling .pCsh).sr.getLsbD 0 = true := by decide
theorem witness_DiscardedAnswersLeaveNoTrace :
    (placed .fW1 2#64 []).dev.mode = .oracle ∧ (placed .fW1 2#64 []).seq = .fW1 ∧
    ∃ t, exec (.writeByte 0#24 1#8)
      { placed .fW1 2#64 [] with env := { (placed .fW1 2#64 []).env with miso := 5#16 :: [] } } = .next t :=
  ⟨by decide, by decide, _, rfl⟩

/-- A ready reference device behind a command in ACCEPT. -/
def withDevice (w : Word64) : State := { placed .accept w [] with dev := someDevice }

/-- The last byte of the device, for WRITE_BYTE, READ_BYTE and a READ_ARRAY of one byte. -/
theorem witness_reference_runs :
    (withDevice 0x000000FF07FFFF02#64).cw = 0#8 ++ (0#16 ++ 0xFF#8) ++ 0x07FFFF#24 ++ 0#4 ++ 0x2#4 ∧
    (withDevice 0x0000000007FFFF03#64).cw = 0#8 ++ 0#24 ++ 0x07FFFF#24 ++ 0#4 ++ 0x3#4 ∧
    (withDevice 0x0000000107FFFF05#64).cw = 0#8 ++ 1#24 ++ 0x07FFFF#24 ++ 0#4 ++ 0x5#4 ∧
    (withDevice 0#64).env.rst = 0 ∧ (withDevice 0#64).seq = .accept ∧ (withDevice 0#64).init = true ∧
    (withDevice 0#64).cnt = 0#24 ∧ (withDevice 0#64).env.spiAck = true ∧ (withDevice 0#64).env.poutReady = true ∧
    (withDevice 0#64).dev.mode = .reference ∧ (withDevice 0#64).dev.wip = false ∧ (0x07FFFF#24).toNat < 524288 ∧
    (0x07FFFF#24).toNat + (1#24).toNat ≤ 524288 := by decide
/-- A_NEXT with nothing left, past the last page, and in the last page. -/
theorem witness_PageAdvanceOutcomes :
    (placed .aNext 4#64 []).seq = .aNext ∧ (placed .aNext 4#64 []).rem = 0#24 ∧
    { placed .aNext 4#64 [] with cur := 524288#25, rem := 1#24 }.rem ≠ 0#24 ∧
    1024 ≤ { placed .aNext 4#64 [] with cur := 524288#25 }.cur.toNat / 512 ∧
    { placed .aNext 4#64 [] with cur := 524287#25 }.cur.toNat / 512 < 1024 ∧
    (nextOf (step (placed .fCsh 4#64 []))).map (fun t => t.seq) = some .aNext ∧
    (nextOf (step (placed .accept 4#64 []))).map (fun t => t.seq) = some .aNext := by decide
theorem witness_EmptyWriteArrayDoesNothing :
    (placed .accept 0x00000000FFFFFF04#64 []).env.rst = 0 ∧ (placed .accept 0x00000000FFFFFF04#64 []).seq = .accept ∧
    (placed .accept 0x00000000FFFFFF04#64 []).init = true ∧ (placed .accept 0x00000000FFFFFF04#64 []).cnt = 0#24 ∧
    (placed .accept 0x00000000FFFFFF04#64 []).cw = 0#8 ++ 0#24 ++ 0xFFFFFF#24 ++ 0#4 ++ 0x4#4 := by decide

/-- WRITE_ARRAY of two bytes from the last byte of page 0, in A_NEXT. -/
def burst : State :=
  { placed .aNext 0x000000020001FF04#64 [0#16, 0#16] with
    cur := 511#25, rem := 2#24
    env := { Env.initial with miso := [0#16, 0#16], pin := [0xAA#8, 0xBB#8] } }

theorem witness_OneBurstPerPage :
    burst.env.rst = 0 ∧ decode (.host burst.cw) = .ok (.writeArray 511#24 2#24) ∧ burst.seq = .aNext ∧
    burst.rem ≠ 0#24 ∧ burst.cur.toNat / 512 < 1024 ∧ burst.env.spiAck = true ∧ burst.dev.mode = .oracle ∧
    burst.env.miso = 0#16 :: 0#16 :: [] ∧ (0#16 : Half).getLsbD 0 = false ∧
    [0xAA#8].length = min (512 - burst.cur.toNat % 512) burst.rem.toNat ∧ burst.env.pin = [0xAA#8] ++ [0xBB#8] := by
  decide

/-- WRITE_ARRAY of the device's last byte, in ACCEPT, with six status bytes that are not busy. -/
def wholeWrite : State :=
  { placed .accept 0x0000000107FFFF04#64 [] with
    env := { Env.initial with miso := List.replicate 6 0xFFFE#16, pin := [0xAA#8] } }

theorem witness_WriteArrayRunsToOk :
    wholeWrite.env.rst = 0 ∧ wholeWrite.seq = .accept ∧ wholeWrite.init = true ∧ wholeWrite.cnt = 0#24 ∧
    wholeWrite.cw = 0#8 ++ 1#24 ++ 0x07FFFF#24 ++ 0#4 ++ 0x4#4 ∧ wholeWrite.env.spiAck = true ∧
    wholeWrite.dev.mode = .oracle ∧ (∀ m ∈ wholeWrite.env.miso, m.getLsbD 0 = false) ∧
    6 * (1#24).toNat ≤ wholeWrite.env.miso.length ∧ (1#24).toNat ≤ wholeWrite.env.pin.length ∧
    (0x07FFFF#24).toNat + (1#24).toNat ≤ 524288 :=
  ⟨rfl, rfl, rfl, rfl, by decide, rfl, rfl, by simp [wholeWrite], by simp [wholeWrite], by simp [wholeWrite],
    by decide⟩
theorem witness_EmptyReadArraySendsTheFrame :
    (placed .accept 0x00000000FFFFFF05#64 [1#16, 2#16]).cw = 0#8 ++ 0#24 ++ 0xFFFFFF#24 ++ 0#4 ++ 0x5#4 ∧
    (placed .accept 0x00000000FFFFFF05#64 [1#16, 2#16]).params.boundsCheck = false ∧
    (placed .accept 0x00000000FFFFFF05#64 [1#16, 2#16]).env.rst = 0 ∧
    (placed .accept 0x00000000FFFFFF05#64 [1#16, 2#16]).seq = .accept ∧
    (placed .accept 0x00000000FFFFFF05#64 [1#16, 2#16]).init = true ∧
    (placed .accept 0x00000000FFFFFF05#64 [1#16, 2#16]).cnt = 0#24 ∧
    (placed .accept 0x00000000FFFFFF05#64 [1#16, 2#16]).env.spiAck = true ∧
    (placed .accept 0x00000000FFFFFF05#64 [1#16, 2#16]).dev.mode = .oracle ∧
    (placed .accept 0x00000000FFFFFF05#64 [1#16, 2#16]).env.miso = 1#16 :: 2#16 :: [] ∧
    (2#16 : Half).getLsbD 0 = false := by decide
theorem witness_ReadBackAfterTheWriteCycle :
    { someDevice with w := .reads 2 }.mode = .reference ∧ { someDevice with w := .reads 2 }.wip = false ∧
    { someDevice with w := .reads 2 }.wel = true ∧ { someDevice with w := .reads 2 }.w = .reads 2 ∧
    Memory.wf { someDevice with w := .reads 2 }.mem = true ∧ [1#8, 2#8] ≠ [] ∧ (510#24).toNat < 524288 ∧
    (510#24).toNat % 512 + [1#8, 2#8].length ≤ 512 := by decide
theorem witness_WriteEnableLatch : someDevice.mode = .reference := by decide

/-- Each frame statement's `exec … = .next t`, in and out of the poll. -/
theorem witness_frames :
    (nextOf (exec (.begin 3#8 5#32) { fresh with seq := .bCscfg })).isSome = true ∧
    (nextOf (exec .waitReady (placed .pCsl 6#64 []))).isSome = true ∧
    (nextOf (exec .rdsr (placed .pCsl 6#64 []))).isSome = true ∧
    (nextOf (exec (.writeByte 5#24 6#8) { placed .dTx 2#64 [0#16] with b := 6#8 })).isSome = true ∧
    (nextOf (exec (.readByte 5#24) (placed .dRx 3#64 [0#16]))).isSome = true ∧
    (nextOf (exec (.writeArray 5#24 6#24) (placed .dTx 4#64 [0#16]))).isSome = true ∧
    (nextOf (exec (.readArray 5#24 6#24) (placed .dRx 5#64 [0#16]))).isSome = true ∧
    (nextOf (exec .wren (placed .eCsl 2#64 []))).isSome = true ∧
    (nextOf (exec .wrdi (placed .wrdiCsl 0#64 []))).isSome = true ∧
    (nextOf (exec (.read 5#24) (placed .fCsl 3#64 []))).isSome = true ∧
    (nextOf (exec (.write 5#24) (placed .fCsl 2#64 []))).isSome = true ∧
    isPollPhase (placed .dTx 2#64 []).seq = false ∧ (placed .dTx 2#64 []).seq ≠ .resp := by decide
/-- SameDeviceBytes at a device with a write cycle in flight, and at one without. -/
theorem witness_SameDeviceBytes :
    (∀ c ∈ ({ someDevice with wip := true, pend := [(3, 1#8)] } : Device).pend, c.1 ≠ 4) ∧ someDevice.wip = false := by
  decide
/-- PollFrame's clause on the write-enable latch: in an open RDSR transaction, with the latch set. -/
theorem witness_PollFrame_latch :
    (({ someDevice with sel := true, pos := 1, ins := 0x05#8 } : Device).sel = true →
      0 < ({ someDevice with sel := true, pos := 1, ins := 0x05#8 } : Device).pos →
      ({ someDevice with sel := true, pos := 1, ins := 0x05#8 } : Device).ins = 0x05#8) ∧
    ∃ t, exec .rdsr { placed .pSr 6#64 [] with dev := { someDevice with sel := true, pos := 1, ins := 0x05#8 } } =
      .next t ∧ t.dev.wel = true :=
  ⟨by decide, _, rfl, by decide⟩
/-- Steps with and without an event, outside P_T0 and P_TIME, for ClockIsReadOnlyInPoll and
HistoryGrowsByOneEvent. -/
theorem witness_history_steps :
    (nextOf (step offered)).map (fun t => t.history) = some [] ∧
    (nextOf (step (placed .eCsl 2#64 []))).map (fun t => t.history) = some [.cs false] ∧
    (placed .eCsl 2#64 []).seq ≠ .pT0 ∧ (placed .eCsl 2#64 []).seq ≠ .pTime ∧ (placed .eCsl 2#64 []).seq ≠ .idle ∧
    (placed .eCsl 2#64 []).seq ≠ .accept ∧ (placed .eCsl 2#64 []).seq ≠ .aNext ∧ offered.seq = .idle := by decide
/-- An 8-bit exchange, a 16-bit exchange and a step that exchanges nothing. -/
theorem witness_ExchangesMatchTheRequestPorts :
    [placed .eCmd 2#64 [0#16], placed .fW1 2#64 [0#16], placed .eCsl 2#64 []].map
      (fun s => (phaseOwned s, s.env.rst, (nextOf (step s)).isSome, (outPorts s).spiReq, (outPorts s).spiW16)) =
      [(true, 0, true, true, false), (true, 0, true, true, true), (true, 0, true, false, false)] := by decide
/-- A state of each kind of wait, and one that waits for nothing. -/
theorem witness_EngineStopsExactlyWhenItWaits :
    [ready [], placed .dPop 4#64 [], { placed .dPush 5#64 [] with env := { Env.initial with poutReady := false } },
      { placed .eCmd 2#64 [] with env := { Env.initial with spiAck := false } }, placed .eCsl 2#64 []].map
      (fun s => (phaseOwned s, s.env.rst, waits s)) =
      [(true, 0, true), (true, 0, true), (true, 0, true), (true, 0, true), (true, 0, false)] := by decide

/-- The middle of a burst of WRITE_ARRAY 511, 2: its second frame word is next. -/
def midBurst : State :=
  { placed .fW2 0x000000020001FF04#64 [0#16] with
    cur := 511#25, rem := 2#24, nb := 1#10, csN := false
    history := [.xfer16 0x0200#16 0#16, .cs false, .cs true, .xfer8 6#8 0#8, .cs false, .cs true, .time 0#32, .xfer8 0#8 2#8] }

theorem witness_ChipSelectInvariantKept :
    ChipSelectInv midBurst ∧ (nextOf (step midBurst)).isSome = true := ⟨rfl, by decide⟩
theorem witness_EngineInvariantKept : EngineInv midBurst :=
  ⟨rfl, by decide, by decide, by decide, by decide, by decide⟩
theorem witness_OnlyFourCodesAreSent : CodesInv midBurst :=
  ⟨by decide, by decide, by intro _; decide⟩
theorem witness_EveryWriteIsArmed : ArmedInv midBurst := by
  refine ⟨by decide, ?_, ?_, ?_, ?_, ?_, ?_, ?_, ?_⟩ <;> intro h <;> first | decide | exact absurd h (by decide)
theorem witness_MemoryStaysCanonical :
    MemoryInv cutWrite ∧ (nextOf (step { withDevice 3#64 with seq := .pCsl })).isSome = true :=
  ⟨by unfold MemoryInv; decide, by decide⟩
theorem witness_ReservedResponseBitsStayZero : ResponseInv { midBurst with resp := 0x0000FFFFFFFFFF0F#64 } := by
  unfold ResponseInv; decide

end Sys2Proof.Tests
end

section
/-! SUPPORT. The phases a command owns, and the meaning a step runs in each of them (R50, R51). -/

namespace Sys2Proof.Machine

/-- `s` latched a command that polls exactly when its OP is one of the five (R51, R158). -/
theorem polls_eq_isPollingOp {s : State} {i : Instr} (hd : decode (.host s.cw) = .ok i) :
    polls i = isPollingOp s.op := by
  rcases decode_host_cases hd with ⟨ho, rfl⟩ | ⟨ho, rfl⟩ | ⟨ho, rfl⟩ | ⟨ho, rfl⟩ | ⟨ho, rfl⟩ | ⟨ho, rfl⟩ <;>
    simp [polls, isPollingOp, State.op, ho]

theorem isPollPhase_iff {p : Phase} :
    isPollPhase p = true ↔ p = .pT0 ∨ p = .pCsl ∨ p = .pCmd ∨ p = .pSr ∨ p = .pTime ∨ p = .pCsh := by
  cases p <;> simp [isPollPhase]

theorem isWrenPhase_iff {p : Phase} : isWrenPhase p = true ↔ p = .eCsl ∨ p = .eCmd ∨ p = .eCsh := by
  cases p <;> simp [isWrenPhase]

theorem isFramePhase_iff {p : Phase} : isFramePhase p = true ↔ p = .fCsl ∨ p = .fW1 ∨ p = .fW2 := by
  cases p <;> simp [isFramePhase]

/-- A polling command performs POLL() in each of POLL's phases (R51, R150). -/
theorem exec_pollPhase {i : Instr} {s : State} (hi : polls i = true) (hs : isPollPhase s.seq = true) :
    exec i s = poll (afterPoll i) s := by
  cases i with
  | writeByte | readByte | writeArray | readArray | waitReady =>
    rcases isPollPhase_iff.1 hs with hp | hp | hp | hp | hp | hp <;>
      simp only [exec, execWriteByte, execReadByte, execWriteArray, execReadArray, execWaitReady, hp] <;> rfl
  | _ => simp [polls] at hi

/-- A writing command performs WREN_SEQ() in each of its phases (R51, R170). -/
theorem exec_wrenPhase {i : Instr} {s : State} (hi : writes i = true) (hs : isWrenPhase s.seq = true) :
    exec i s = wrenSeq s := by
  cases i with
  | writeByte | writeArray =>
    rcases isWrenPhase_iff.1 hs with hp | hp | hp <;> simp only [exec, execWriteByte, execWriteArray, hp]
  | _ => simp [writes] at hi

/-- A command with a device access performs its own FRAME in each of the frame's phases (R51, R110). -/
theorem exec_framePhase {i : Instr} {s : State} (hi : (writes i || reads i) = true)
    (hs : isFramePhase s.seq = true) :
    exec i s = frame (frameCmdOf i) (frameAddrOf i s) (afterFrame i) s := by
  cases i with
  | writeByte | readByte | writeArray | readArray =>
    rcases isFramePhase_iff.1 hs with hp | hp | hp <;>
      simp only [exec, execWriteByte, execReadByte, execWriteArray, execReadArray, hp] <;> rfl
  | _ => simp [writes, reads] at hi

/-- Only a polling command owns a phase of POLL (R51). -/
theorem polls_of_owns {i : Instr} {p : Phase} (ho : owns i p = true) (hp : isPollPhase p = true) :
    polls i = true := by
  cases i with
  | writeByte | readByte | writeArray | readArray | waitReady => rfl
  | _ => rcases isPollPhase_iff.1 hp with rfl | rfl | rfl | rfl | rfl | rfl <;> simp [owns] at ho

/-- Only a writing command owns a phase of WREN_SEQ (R51). -/
theorem writes_of_owns {i : Instr} {p : Phase} (ho : owns i p = true) (hp : isWrenPhase p = true) :
    writes i = true := by
  cases i with
  | writeByte | writeArray => rfl
  | _ => rcases isWrenPhase_iff.1 hp with rfl | rfl | rfl <;> simp [owns, isPollPhase, isFramePhase] at ho

/-- Only a command with a device access owns a phase of its frame (R51). -/
theorem accesses_of_owns {i : Instr} {p : Phase} (ho : owns i p = true) (hp : isFramePhase p = true) :
    (writes i || reads i) = true := by
  cases i with
  | writeByte | readByte | writeArray | readArray => rfl
  | _ => rcases isFramePhase_iff.1 hp with rfl | rfl | rfl <;> simp [owns, isPollPhase] at ho

/-- No operation owns IDLE or a phase of the model's own (R51). -/
theorem not_idle_not_bare_of_owns {i : Instr} {p : Phase} (ho : owns i p = true) :
    p ≠ .idle ∧ isBare p = false := by
  cases p <;> simp [isBare] <;> cases i <;> simp [owns, isPollPhase, isWrenPhase, isFramePhase] at ho

/-- A phase of an operation is owned by the latched command (R51). -/
theorem phaseOwned_cases {s : State} (ho : phaseOwned s = true) :
    s.seq = .idle ∨ s.seq = .accept ∨ s.seq = .resp ∨
    ∃ i, decode (.host s.cw) = .ok i ∧ owns i s.seq = true := by
  unfold phaseOwned at ho
  split at ho
  · simp [*]
  · simp [*]
  · simp [*]
  · split at ho
    · rename_i i hd
      obtain ⟨howns, -⟩ := Bool.and_eq_true_iff.1 ho
      exact .inr (.inr (.inr ⟨i, hd, howns⟩))
    · simp at ho

/-- A host command begins or polls (R125, R158). -/
theorem begin_or_polls {c : Word64} {i : Instr} (hd : decode (.host c) = .ok i) :
    (∃ csid clkhz, i = .begin csid clkhz) ∨ polls i = true := by
  rcases decode_host_cases hd with ⟨-, rfl⟩ | ⟨-, rfl⟩ | ⟨-, rfl⟩ | ⟨-, rfl⟩ | ⟨-, rfl⟩ | ⟨-, rfl⟩ <;> simp [polls]

/-- ACCEPT of a polling command is the checks of R235 and its dispatch (R51). -/
theorem exec_accept {i : Instr} {s : State} (hs : s.seq = .accept) (hi : polls i = true) :
    exec i s = checkAndDispatch (instrOutOfBounds i) (dispatchOf i) s := by
  cases i with
  | writeByte | readByte | writeArray | readArray | waitReady =>
    simp only [exec, execWriteByte, execReadByte, execWriteArray, execReadArray, execWaitReady, hs]
    rfl
  | _ => simp [polls] at hi

/-- RESP of every host command is the response (R240, R241). -/
theorem exec_resp {i : Instr} {s : State} (hs : s.seq = .resp) (hi : polls i = true ∨ isBegin i = true) :
    exec i s = .next (respond s) := by
  cases i with
  | begin | writeByte | readByte | writeArray | readArray | waitReady =>
    simp only [exec, execBegin, execWriteByte, execReadByte, execWriteArray, execReadArray, execWaitReady, hs]
  | _ => simp [polls, isBegin] at hi

/-- RESP answers whatever word was latched (R240, R241). -/
theorem step_resp {s : State} (hr : s.env.rst = 0) (hs : s.seq = .resp) : step s = .next (respond s) := by
  cases hd : decode (.host s.cw) with
  | error e =>
    rw [step_illegal hr (by simp [hs]) (by simp [hs, isBare]) hd, illegalWord_next.2 (.inr ⟨hs, rfl⟩)]
  | ok i =>
    rw [step_exec hr (by simp [hs]) (by simp [hs, isBare]) hd]
    rcases begin_or_polls hd with ⟨csid, clkhz, rfl⟩ | hp
    · exact exec_resp hs (.inr rfl)
    · exact exec_resp hs (.inl hp)

/-- A run whose first step is known goes on from its state. -/
theorem run_succ_of_step {s t : State} (k : Nat) (h : step s = .next t) :
    Sys2Proof.core.run (k + 1) s = Sys2Proof.core.run k t := by
  simp only [Host.Core.run, show Sys2Proof.core.step s = .next t from h]

/-- While a polling command polls, a step is a step of POLL() (R51, R150). -/
theorem step_poll {s : State} {i : Instr} (hr : s.env.rst = 0) (hd : decode (.host s.cw) = .ok i)
    (hi : polls i = true) (hs : isPollPhase s.seq = true) : step s = poll (afterPoll i) s := by
  obtain ⟨hidle, hbare⟩ : s.seq ≠ .idle ∧ isBare s.seq = false := by
    rcases isPollPhase_iff.1 hs with hp | hp | hp | hp | hp | hp <;> simp [hp, isBare]
  rw [step_exec hr hidle hbare hd, exec_pollPhase hi hs]

end Sys2Proof.Machine
end

section
/-! SUPPORT. The growth of the history in one step (R24), and the exchange the request ports show (R35): O51, O52. -/

namespace Sys2Proof.Machine

/-- The latched frame command and address are those of the instruction in flight (R110, R180, R185, R200, R210). -/
theorem frame_of_decode {s : State} {i : Instr} (hd : decode (.host s.cw) = .ok i)
    (hp : (writes i || reads i) = true) :
    frameCommand s = frameCmdOf i ∧ frameAddress s = frameAddrOf i s := by
  rcases decode_host_cases hd with ⟨ho, rfl⟩ | ⟨ho, rfl⟩ | ⟨ho, rfl⟩ | ⟨ho, rfl⟩ | ⟨ho, rfl⟩ | ⟨ho, rfl⟩ <;>
    simp [writes, reads] at hp <;>
    simp [frameCommand, frameAddress, frameCmdOf, frameAddrOf, State.op, State.addr, ho]

/-- The steps that record no event: reset, acceptance, ACCEPT and A_NEXT (R24, R52, R203; log 9). -/
def recordsNothing (s : State) : Prop :=
  s.env.rst ≠ 0 ∨ s.seq = .idle ∨ s.seq = .accept ∨ s.seq = .aNext

/-- What a step from `s` to `t` adds to the history: nothing, the exchange its SPI request shows, or an event that is
no exchange. -/
inductive HistoryGrowth (s t : State) : Prop where
  | nothing (hq : recordsNothing s) (hn : s.env.rst = 0 → spiRequest s = none) (ht : t.history = s.history)
  | byte (v m : Byte) (hq : ¬recordsNothing s) (hr : spiRequest s = some (.byte v))
      (ht : t.history = .xfer8 v m :: s.history)
  | half (w m : Half) (hq : ¬recordsNothing s) (hr : spiRequest s = some (.half w))
      (ht : t.history = .xfer16 w m :: s.history)
  | other (e : Event) (ht : t.history = e :: s.history) (hq : ¬recordsNothing s) (hn : spiRequest s = none)
      (h8 : ∀ v m, e ≠ .xfer8 v m) (h16 : ∀ w m, e ≠ .xfer16 w m)

@[simp] theorem dispatchOf_history (i : Instr) (s : State) : (dispatchOf i s).history = s.history := by
  cases i <;> rfl

@[simp] theorem afterPoll_history (i : Instr) (s : State) : (afterPoll i s).history = s.history := by
  cases i <;> rfl

@[simp] theorem afterFrame_history (i : Instr) (s : State) : (afterFrame i s).history = s.history := by
  cases i <;> rfl

@[simp] theorem afterClose_history (i : Instr) (s : State) : (afterClose i s).history = s.history := by
  cases i <;> rfl

@[simp] theorem pageAdvance_history (s : State) : (pageAdvance s).history = s.history := by
  rcases pageAdvance_cases s with ⟨-, h⟩ | ⟨-, -, h⟩ | ⟨-, -, h⟩ <;> simp [h]

/-- Every step's growth, one case a line of R50. -/
theorem EngineStep.historyGrowth {s t : State} (h : EngineStep s t) : HistoryGrowth s t := by
  cases h with
  | reset hr => exact .nothing (.inl hr) (fun h => absurd h hr) (by simp)
  | take hr hs | rejectIllegal hr hs | rejectClock hr hs | rejectAgain hr hs | startBegin hr hs
  | rejectNotInit hr hs | rejectBounds hr hs | start hr hs | pageAdvance hr hs =>
    exact .nothing (by simp [recordsNothing, hs]) (by simp [spiRequest, hs]) (by simp)
  | respond hr hs | beginCsConfig hr hs | beginCsHigh hr hs | beginSpiConfig hr hs | pollStart hr hs
  | pollOpen hr hs | pollTime hr hs | pollBusy hr hs | pollReady hr hs | wrenOpen hr hs | wrenClose hr hs
  | frameOpen hr hs | pop hr hs | push hr hs | close hr hs | wrdiOpen hr hs | wrdiClose hr hs =>
    exact .other _ (by simp; rfl) (by simp [recordsNothing, hr, hs]) (by simp [spiRequest, hs]) (by simp) (by simp)
  | pollCommand hr hs | pollStatus hr hs | wrenCommand hr hs | sendByte hr hs | receiveByte hr hs
  | sendArrayByte hr hs | receiveArrayByte hr hs | wrdiCommand hr hs =>
    exact .byte _ _ (by simp [recordsNothing, hr, hs]) (by simp [spiRequest, hs]; rfl) (by simp; rfl)
  | frameFirst hr hs i hd hp | frameSecond hr hs i hd hp =>
    obtain ⟨hc, ha⟩ := frame_of_decode hd hp
    exact .half _ _ (by simp [recordsNothing, hr, hs]) (by simp [spiRequest, hs, hc, ha]; rfl) (by simp; rfl)

/-- A step that records nothing leaves the history as it was. -/
theorem HistoryGrowth.unchanged {s t : State} (h : HistoryGrowth s t) (hs : recordsNothing s) :
    t.history = s.history := by
  cases h with
  | nothing _ _ ht => exact ht
  | byte _ _ hq | half _ _ hq | other _ _ hq => exact absurd hs hq

/-- Every other step adds one event (R24). -/
theorem HistoryGrowth.oneEvent {s t : State} (h : HistoryGrowth s t) (hs : ¬recordsNothing s) :
    ∃ e, t.history = e :: s.history := by
  cases h with
  | nothing hq => exact absurd hq hs
  | byte _ _ _ _ ht | half _ _ _ _ ht | other _ ht => exact ⟨_, ht⟩

/-- Settles O51, by the growth of the history in the step. -/
theorem historyGrowsByOneEvent : Obligations.HistoryGrowsByOneEvent := by
  intro s t h
  have growth := (step_engineStep h).historyGrowth
  refine ⟨growth.unchanged, fun hr hi ha hn => growth.oneEvent ?_⟩
  simp [recordsNothing, hr, hi, ha, hn]

/-- The request's strobe, width and value on the ports (R35). -/
theorem outPorts_spi (s : State) :
    ((outPorts s).spiReq = (spiRequest s).isSome) ∧
    (∀ v, spiRequest s = some (.byte v) → (outPorts s).spiW16 = false ∧ (outPorts s).spiMosi = v.setWidth 16) ∧
    (∀ w, spiRequest s = some (.half w) → (outPorts s).spiW16 = true ∧ (outPorts s).spiMosi = w) := by
  refine ⟨rfl, fun v hv => ?_, fun w hw => ?_⟩
  · simp [outPorts, hv]
  · simp [outPorts, hw]

/-- Settles O52, by the kind of growth of the history. -/
theorem exchangesMatchTheRequestPorts : Obligations.ExchangesMatchTheRequestPorts := by
  intro s t _ hrst h
  obtain ⟨hreq, hbyte, hhalf⟩ := outPorts_spi s
  cases (step_engineStep h).historyGrowth with
  | nothing _ hn ht => simp [hreq, hn hrst, ht]
  | byte v m _ hr ht =>
    obtain ⟨hw, hm⟩ := hbyte v hr
    refine ⟨fun _ _ => ⟨v, m, hm, ht⟩, ?_, ?_⟩ <;> simp [hreq, hr, hw]
  | half w m _ hr ht =>
    obtain ⟨hw, hm⟩ := hhalf w hr
    refine ⟨?_, fun _ _ => ⟨m, hm.symm ▸ ht⟩, ?_⟩ <;> simp [hreq, hr, hw]
  | other e ht _ hn h8 h16 => simp [hreq, hn, ht, h8, h16]

end Sys2Proof.Machine
end

section
/-! SUPPORT. What a step does to the configuration and the parameters (R14, R41): O19. -/

namespace Sys2Proof.Machine

/-- The configuration registers, the driven chip-select line and the build-time parameters are the same
(R13, R41, R141). -/
def SameWiring (s t : State) : Prop :=
  t.csId = s.csId ∧ t.clkHz = s.clkHz ∧ t.csOe = s.csOe ∧ t.params = s.params

theorem dispatchOf_sameWiring (i : Instr) (s : State) : SameWiring s (dispatchOf i s) := by
  cases i <;> exact ⟨rfl, rfl, rfl, rfl⟩

theorem afterPoll_sameWiring (i : Instr) (s : State) : SameWiring s (afterPoll i s) := by
  cases i <;> exact ⟨rfl, rfl, rfl, rfl⟩

theorem afterFrame_sameWiring (i : Instr) (s : State) : SameWiring s (afterFrame i s) := by
  cases i <;> exact ⟨rfl, rfl, rfl, rfl⟩

theorem afterClose_sameWiring (i : Instr) (s : State) : SameWiring s (afterClose i s) := by
  cases i <;> exact ⟨rfl, rfl, rfl, rfl⟩

theorem pageAdvance_sameWiring (s : State) : SameWiring s (pageAdvance s) := by
  rcases pageAdvance_cases s with ⟨-, h⟩ | ⟨-, -, h⟩ | ⟨-, -, h⟩ <;> simp [SameWiring, h]

theorem SameWiring.trans {s t u : State} (h : SameWiring s t) (g : SameWiring t u) : SameWiring s u := by
  obtain ⟨h1, h2, h3, h4⟩ := h
  obtain ⟨g1, g2, g3, g4⟩ := g
  exact ⟨g1.trans h1, g2.trans h2, g3.trans h3, g4.trans h4⟩

/-- Only a reset and BEGIN's B_CSCFG touch the configuration, and neither touches a parameter (R14, R41, R141). -/
theorem EngineStep.wiring {s t : State} (h : EngineStep s t) :
    (s.env.rst ≠ 0 ∧ t.params = s.params) ∨
    (s.seq = .bCscfg ∧ (∃ csid clkhz, decode (.host s.cw) = .ok (.begin csid clkhz)) ∧ t.params = s.params) ∨
    SameWiring s t := by
  cases h with
  | reset hr => exact .inl ⟨hr, rfl⟩
  | beginCsConfig _ hs csid clkhz hd => exact .inr (.inl ⟨hs, ⟨csid, clkhz, hd⟩, rfl⟩)
  | start _ _ i => exact .inr (.inr (dispatchOf_sameWiring i s))
  | pageAdvance => exact .inr (.inr (pageAdvance_sameWiring s))
  | pollReady _ _ i => exact .inr (.inr (SameWiring.trans (by simp [SameWiring]) (afterPoll_sameWiring i _)))
  | frameSecond _ _ i => exact .inr (.inr (SameWiring.trans (by simp [SameWiring]) (afterFrame_sameWiring i _)))
  | close _ _ i => exact .inr (.inr (SameWiring.trans (by simp [SameWiring]) (afterClose_sameWiring i _)))
  | _ => simp [SameWiring]

/-- BEGIN's phases are entered with `init` = 0 alone (R42, R51). -/
theorem init_of_phaseOwned_bCscfg {s : State} {csid : CsId} {clkhz : Hertz} (ho : phaseOwned s = true)
    (hs : s.seq = .bCscfg) (hd : decode (.host s.cw) = .ok (.begin csid clkhz)) : s.init = false := by
  simpa [phaseOwned, hs, hd, owns, isBegin] using ho

/-- Settles O19, by what a step does to the configuration. -/
theorem configurationIsWrittenOnce : Obligations.ConfigurationIsWrittenOnce := by
  constructor
  · intro s t ho hrst h
    rcases (step_engineStep h).wiring with ⟨hr, -⟩ | ⟨hs, ⟨csid, clkhz, hd⟩, -⟩ | ⟨hid, hhz, hoe, -⟩
    · exact absurd hrst hr
    · have hi := init_of_phaseOwned_bCscfg ho hs hd
      simp [hi, hs]
    · simp [hid, hhz, hoe]
  · intro s t h
    rcases (step_engineStep h).wiring with ⟨-, hp⟩ | ⟨-, -, hp⟩ | ⟨-, -, -, hp⟩ <;> exact hp

end Sys2Proof.Machine
end

section
/-! SUPPORT. The engine has a step exactly when it waits for no partner (R27, R28, R53): O53. -/

namespace Sys2Proof.Machine

/-- The outcome `o` of `s` is a step unless `s` waits, and then the stop that names the partner. -/
def StopsIffWaits (s : State) (o : Out) : Prop :=
  (waits s = false → ∃ t, o = .next t) ∧ (waits s = true → o = .fault (waitFault s))

/-- A step that is always there, from a state that waits for no partner. -/
theorem stopsIffWaits_next {s t : State} (hw : waits s = false) : StopsIffWaits s (.next t) :=
  ⟨fun _ => ⟨t, rfl⟩, fun h => by simp [hw] at h⟩

/-- An SPI phase waits for the transport alone (R53). -/
theorem waits_of_spiRequest {s : State} (h : (spiRequest s).isSome = true) :
    waits s = !s.env.spiAck ∧ waitFault s = .transportSilent := by
  cases hs : s.seq <;> simp [spiRequest, hs] at h <;> simp [waits, waitFault, spiRequest, hs]

/-- An 8-bit exchange in an SPI phase (R53). -/
theorem stopsIffWaits_x8 {v : Byte} {s : State} {k : Byte → State → State}
    (h : (spiRequest s).isSome = true) : StopsIffWaits s (x8 v s k) := by
  obtain ⟨hw, hf⟩ := waits_of_spiRequest h
  cases ha : s.env.spiAck <;> simp [StopsIffWaits, hw, hf, x8, ha]

/-- A 16-bit exchange in an SPI phase (R53). -/
theorem stopsIffWaits_x16 {w : Half} {s : State} {k : Half → State → State}
    (h : (spiRequest s).isSome = true) : StopsIffWaits s (x16 w s k) := by
  obtain ⟨hw, hf⟩ := waits_of_spiRequest h
  cases ha : s.env.spiAck <;> simp [StopsIffWaits, hw, hf, x16, ha]

/-- D_POP waits for a payload byte (R27). -/
theorem stopsIffWaits_popByte {s : State} {k : Byte → State → State} (hs : s.seq = .dPop) :
    StopsIffWaits s (popByte s k) := by
  cases hp : s.env.pin <;> simp [StopsIffWaits, waits, waitFault, hs, popByte, hp]

/-- D_PUSH waits for the host to take the byte (R27). -/
theorem stopsIffWaits_pushByte {v : Byte} {s : State} {k : State → State} (hs : s.seq = .dPush) :
    StopsIffWaits s (pushByte v s k) := by
  cases hp : s.env.poutReady <;> simp [StopsIffWaits, waits, waitFault, hs, pushByte, hp]

/-- IDLE waits for a command (R28). -/
theorem stopsIffWaits_acceptCommand {s : State} (hs : s.seq = .idle) : StopsIffWaits s (acceptCommand s) := by
  cases hc : s.env.cmds <;> simp [StopsIffWaits, waits, waitFault, hs, acceptCommand, hc]

/-- ACCEPT's checks always answer (R235). -/
theorem stopsIffWaits_checkAndDispatch {oob : Bool} {go : State → State} {s : State} (hs : s.seq = .accept) :
    StopsIffWaits s (checkAndDispatch oob go s) := by
  have hw : waits s = false := by simp [waits, spiRequest, hs]
  unfold checkAndDispatch
  split
  · exact stopsIffWaits_next hw
  · split <;> exact stopsIffWaits_next hw

theorem stopsIffWaits_poll {ready : State → State} {s : State} (h : isPollPhase s.seq = true) :
    StopsIffWaits s (poll ready s) := by
  unfold poll
  cases hs : s.seq <;> simp only [hs, isPollPhase, Bool.false_eq_true] at h
  case pCmd | pSr => exact stopsIffWaits_x8 (by simp [spiRequest, hs])
  case pT0 | pCsl | pTime | pCsh => exact stopsIffWaits_next (by simp [waits, spiRequest, hs])

theorem stopsIffWaits_wrenSeq {s : State} (h : isWrenPhase s.seq = true) : StopsIffWaits s (wrenSeq s) := by
  unfold wrenSeq
  cases hs : s.seq <;> simp only [hs, isWrenPhase, Bool.false_eq_true] at h
  case eCmd => exact stopsIffWaits_x8 (by simp [spiRequest, hs])
  case eCsl | eCsh => exact stopsIffWaits_next (by simp [waits, spiRequest, hs])

theorem stopsIffWaits_frame {cmd : Byte} {a : Addr} {after : State → State} {s : State}
    (h : isFramePhase s.seq = true) : StopsIffWaits s (frame cmd a after s) := by
  unfold frame
  cases hs : s.seq <;> simp only [hs, isFramePhase, Bool.false_eq_true] at h
  case fW1 | fW2 => exact stopsIffWaits_x16 (by simp [spiRequest, hs])
  case fCsl => exact stopsIffWaits_next (by simp [waits, spiRequest, hs])

/-- BEGIN's ACCEPT always answers (R142, R143, R235). -/
theorem stopsIffWaits_begin_accept {csid : CsId} {clkhz : Hertz} {s : State} (hs : s.seq = .accept) :
    StopsIffWaits s (exec (.begin csid clkhz) s) := by
  have hw : waits s = false := by simp [waits, spiRequest, hs]
  simp only [exec, execBegin, hs]
  split
  · exact stopsIffWaits_next hw
  · split <;> exact stopsIffWaits_next hw

/-- In a phase of its own a command steps unless it waits: in a sub-sequence as that does, else by the phase. -/
theorem stopsIffWaits_exec {i : Instr} {s : State} (ho : owns i s.seq = true) : StopsIffWaits s (exec i s) := by
  cases hpoll : isPollPhase s.seq
  case true => rw [exec_pollPhase (polls_of_owns ho hpoll) hpoll]; exact stopsIffWaits_poll hpoll
  cases hwren : isWrenPhase s.seq
  case true => rw [exec_wrenPhase (writes_of_owns ho hwren) hwren]; exact stopsIffWaits_wrenSeq hwren
  cases hframe : isFramePhase s.seq
  case true => rw [exec_framePhase (accesses_of_owns ho hframe) hframe]; exact stopsIffWaits_frame hframe
  cases i <;> simp [owns, hpoll, hwren, hframe] at ho
  case begin csid clkhz =>
    rcases ho with (hs | hs) | hs <;> simp only [exec, execBegin, hs] <;>
      exact stopsIffWaits_next (by simp [waits, spiRequest, hs])
  case writeByte addr data =>
    rcases ho with hs | hs <;> simp only [exec, execWriteByte, hs]
    · exact stopsIffWaits_x8 (by simp [spiRequest, hs])
    · exact stopsIffWaits_next (by simp [waits, spiRequest, hs])
  case readByte addr =>
    rcases ho with hs | hs <;> simp only [exec, execReadByte, hs]
    · exact stopsIffWaits_x8 (by simp [spiRequest, hs])
    · exact stopsIffWaits_next (by simp [waits, spiRequest, hs])
  case writeArray addr len =>
    rcases ho with ((hs | hs) | hs) | hs <;> simp only [exec, execWriteArray, hs]
    · exact stopsIffWaits_next (by simp [waits, spiRequest, hs])
    · exact stopsIffWaits_popByte hs
    · exact stopsIffWaits_x8 (by simp [spiRequest, hs])
    · exact stopsIffWaits_next (by simp [waits, spiRequest, hs])
  case readArray addr len =>
    rcases ho with (hs | hs) | hs <;> simp only [exec, execReadArray, hs]
    · exact stopsIffWaits_x8 (by simp [spiRequest, hs])
    · exact stopsIffWaits_pushByte hs
    · exact stopsIffWaits_next (by simp [waits, spiRequest, hs])

/-- ACCEPT answers every word (R235). -/
theorem stopsIffWaits_step_accept {s : State} (hr : s.env.rst = 0) (hs : s.seq = .accept) :
    StopsIffWaits s (step s) := by
  cases hd : decode (.host s.cw) with
  | error e =>
    rw [step_illegal hr (by simp [hs]) (by simp [hs, isBare]) hd, illegalWord_next.2 (.inl ⟨hs, rfl⟩)]
    exact stopsIffWaits_next (by simp [waits, spiRequest, hs])
  | ok i =>
    rw [step_exec hr (by simp [hs]) (by simp [hs, isBare]) hd]
    rcases begin_or_polls hd with ⟨csid, clkhz, rfl⟩ | hp
    · exact stopsIffWaits_begin_accept hs
    · rw [exec_accept hs hp]
      exact stopsIffWaits_checkAndDispatch hs

/-- Settles O53, by where the phase stands: IDLE, ACCEPT, RESP, or a phase the latched command owns. -/
theorem engineStopsExactlyWhenItWaits : Obligations.EngineStopsExactlyWhenItWaits := by
  intro s ho hr
  change StopsIffWaits s (step s)
  rcases phaseOwned_cases ho with hs | hs | hs | ⟨i, hd, hi⟩
  · rw [step_idle hr hs]
    exact stopsIffWaits_acceptCommand hs
  · exact stopsIffWaits_step_accept hr hs
  · rw [step_resp hr hs]
    exact stopsIffWaits_next (by simp [waits, spiRequest, hs])
  · obtain ⟨hidle, hbare⟩ := not_idle_not_bare_of_owns hi
    rw [step_exec hr hidle hbare hd]
    exact stopsIffWaits_exec hi

end Sys2Proof.Machine
end

section
/-! SUPPORT. The rounds of a poll, a status byte and a sample of the clock each (R150), and its end: O23. -/

namespace Sys2Proof.Machine

/-- The next sample, where the clock's advance is scripted (R37; log 6). -/
theorem nextSample_of_ticks {s : State} {d : Nat} {rest : List Nat} (h : s.env.ticks = d :: rest) :
    nextSample s = s.env.now + BitVec.ofNat 32 d := by
  simp [nextSample, nextTick, h]

/-- A sample uses up the scripted advance (log 6). -/
theorem sampleTime_env_ticks {s : State} {d : Nat} {rest : List Nat} (h : s.env.ticks = d :: rest) :
    (sampleTime s).env.ticks = rest := by
  simp [sampleTime, nextTick, h]

/-- The state after the P_SR step (R150). -/
def afterStatusRead (s : State) : State :=
  { (deviceByte Config.dummyByte s).2.emit (.xfer8 Config.dummyByte (deviceByte Config.dummyByte s).1) with
    sr := (deviceByte Config.dummyByte s).1, seq := .pTime }

@[simp] theorem afterStatusRead_env_rst (s : State) : (afterStatusRead s).env.rst = s.env.rst := by
  simp [afterStatusRead]

@[simp] theorem afterStatusRead_env_spiAck (s : State) : (afterStatusRead s).env.spiAck = s.env.spiAck := by
  simp [afterStatusRead]

@[simp] theorem afterStatusRead_env_now (s : State) : (afterStatusRead s).env.now = s.env.now := by
  simp [afterStatusRead]

@[simp] theorem afterStatusRead_env_ticks (s : State) : (afterStatusRead s).env.ticks = s.env.ticks := by
  simp [afterStatusRead]

@[simp] theorem afterStatusRead_cw (s : State) : (afterStatusRead s).cw = s.cw := by
  simp [afterStatusRead]

@[simp] theorem afterStatusRead_params (s : State) : (afterStatusRead s).params = s.params := by
  simp [afterStatusRead]

@[simp] theorem afterStatusRead_t0 (s : State) : (afterStatusRead s).t0 = s.t0 := by
  simp [afterStatusRead]

/-- The state after the P_TIME step (R150, R152). -/
def afterTimeCheck (s : State) : State :=
  { sampleTime s with
    el := nextSample s - s.t0
    seq := if pollContinues s.params s.sr (nextSample s - s.t0) then .pSr else .pCsh }

/-- A polling command stands before a status byte, with a transport that acknowledges (R35, R150). -/
structure AtStatusRead (i : Instr) (s : State) : Prop where
  rst : s.env.rst = 0
  decoded : decode (.host s.cw) = .ok i
  polling : polls i = true
  ack : s.env.spiAck = true
  seq : s.seq = .pSr

/-- The elapsed time after an advance that does not wrap (R26, R155). -/
theorem elapsed_add {now t0 : Millis} {d : Nat} (h : (now - t0).toNat + d < 2 ^ 32) :
    (now + BitVec.ofNat 32 d - t0).toNat = (now - t0).toNat + d := by
  rw [show now + BitVec.ofNat 32 d - t0 = now - t0 + BitVec.ofNat 32 d by ring,
    BitVec.toNat_add, BitVec.toNat_ofNat]
  omega

/-- The state after one round: a status byte and the check of the time (R150, R152). -/
def afterRound (s : State) : State := afterTimeCheck (afterStatusRead s)

/-- One round of the poll takes two steps (R150). -/
theorem AtStatusRead.run_two {i : Instr} {s : State} (h : AtStatusRead i s) (k : Nat) :
    Sys2Proof.core.run (k + 2) s = Sys2Proof.core.run k (afterRound s) := by
  have hread : step s = .next (afterStatusRead s) := by
    rw [step_poll h.rst h.decoded h.polling (by simp [h.seq, isPollPhase])]
    exact poll_next.2 (.inr (.inr (.inr (.inl ⟨h.seq, h.ack, rfl⟩))))
  have hcheck : step (afterStatusRead s) = .next (afterRound s) := by
    rw [step_poll (i := i) (by simp [h.rst]) (by simp [h.decoded]) h.polling rfl]
    exact poll_next.2 (.inr (.inr (.inr (.inr (.inl ⟨rfl, rfl⟩)))))
  rw [run_succ_of_step _ hread, run_succ_of_step _ hcheck]

/-- Where a round goes (R152). -/
theorem afterRound_seq (s : State) :
    (afterRound s).seq =
      if pollContinues (afterRound s).params (afterRound s).sr (afterRound s).el then .pSr else .pCsh := by
  simp [afterRound, afterTimeCheck]

@[simp] theorem afterRound_params (s : State) : (afterRound s).params = s.params := by
  simp [afterRound, afterTimeCheck]

@[simp] theorem afterRound_t0 (s : State) : (afterRound s).t0 = s.t0 := by
  simp [afterRound, afterTimeCheck]

/-- A round moves the clock on by the scripted advance, and measures the elapsed time with it (R26, R37, R150). -/
theorem afterRound_clock {s : State} {d : Nat} {rest : List Nat} (ht : s.env.ticks = d :: rest) :
    (afterRound s).env.now = s.env.now + BitVec.ofNat 32 d ∧ (afterRound s).env.ticks = rest ∧
    (afterRound s).el = (afterRound s).env.now - s.t0 := by
  have hread : (afterStatusRead s).env.ticks = d :: rest := by simp [ht]
  refine ⟨?_, sampleTime_env_ticks hread, ?_⟩
  · simp [afterRound, afterTimeCheck, nextSample_of_ticks hread]
  · simp [afterRound, afterTimeCheck]

/-- A round that goes on stands before the next status byte. -/
theorem AtStatusRead.next {i : Instr} {s : State} (h : AtStatusRead i s) (hs : (afterRound s).seq = .pSr) :
    AtStatusRead i (afterRound s) where
  rst := by simp [afterRound, afterTimeCheck, h.rst]
  decoded := by simp [afterRound, afterTimeCheck, h.decoded]
  polling := h.polling
  ack := by simp [afterRound, afterTimeCheck, h.ack]
  seq := hs

/-- The poll goes on: WIP is set and the timeout is not reached (R152). -/
theorem pollContinues_eq_true {p : Params} {sr : Byte} {el : Millis} :
    pollContinues p sr el = true ↔ sr.getLsbD 0 = true ∧ el.toNat < p.busyTimeoutMs.toNat := by
  simp only [pollContinues, Bool.and_eq_true, decide_eq_true_eq, wipSet, Config.wipBit]

/-- The poll's condition is false: WIP is clear or the timeout is reached (R152, R153). -/
theorem pollContinues_eq_false {p : Params} {sr : Byte} {el : Millis} :
    pollContinues p sr el = false ↔ sr.getLsbD 0 = false ∨ p.busyTimeoutMs.toNat ≤ el.toNat := by
  simp only [pollContinues, Bool.and_eq_false_iff, decide_eq_false_iff_not, Nat.not_lt, wipSet, Config.wipBit]

/-- By induction on the samples: after each round either the poll is over, or the elapsed time is still below the
timeout and the samples that remain make up the difference (R26, R157). -/
theorem AtStatusRead.pollEnds {i : Instr} (n : Nat) : ∀ s : State, AtStatusRead i s →
    0 < (s.env.ticks.take n).sum →
    s.params.busyTimeoutMs.toNat ≤ (s.env.now - s.t0).toNat + (s.env.ticks.take n).sum →
    (s.env.now - s.t0).toNat + (s.env.ticks.take n).sum < 2 ^ 32 →
    ∃ k t, k ≤ 2 * n ∧ Sys2Proof.core.run k s = .next t ∧ t.seq = .pCsh ∧
      (t.sr.getLsbD 0 = false ∨ s.params.busyTimeoutMs.toNat ≤ t.el.toNat) := by
  induction n with
  | zero => intro s _ hpos; simp at hpos
  | succ n ih =>
    intro s h hpos hsum hwrap
    cases ht : s.env.ticks with
    | nil => simp [ht] at hpos
    | cons d rest =>
      rw [ht, List.take_succ_cons, List.sum_cons] at hsum hwrap
      obtain ⟨hnow, hrest, hel⟩ := afterRound_clock ht
      have helapsed : ((afterRound s).env.now - s.t0).toNat = (s.env.now - s.t0).toNat + d := by
        rw [hnow]
        exact elapsed_add (by omega)
      have hseq := afterRound_seq s
      cases hc : pollContinues (afterRound s).params (afterRound s).sr (afterRound s).el with
      | false =>
        rw [hc] at hseq
        refine ⟨2, afterRound s, by omega, h.run_two 0, hseq, ?_⟩
        simpa using pollContinues_eq_false.1 hc
      | true =>
        rw [hc] at hseq
        obtain ⟨-, hbelow⟩ := pollContinues_eq_true.1 hc
        rw [hel, helapsed, afterRound_params] at hbelow
        obtain ⟨k, t, hk, hrun, hend⟩ := ih (afterRound s) (h.next hseq) (by rw [hrest]; omega)
          (by rw [hrest, afterRound_params, afterRound_t0, helapsed]; omega)
          (by rw [hrest, afterRound_t0, helapsed]; omega)
        rw [afterRound_params] at hend
        exact ⟨k + 2, t, by omega, (h.run_two k).trans hrun, hend⟩

/-- Settles O23, by `AtStatusRead.pollEnds`: BUSY_TIMEOUT_MS is not 0, so the samples advance at all (R13). -/
theorem pollEndsUnderAnAdvancingClock : Obligations.PollEndsUnderAnAdvancingClock := by
  rintro s n hr hs ⟨i, hd⟩ hop hack hwf hsum hwrap
  have hpos : 0 < s.params.busyTimeoutMs.toNat := by
    have hne : s.params.busyTimeoutMs ≠ 0#32 := by simpa [Params.wf] using hwf
    exact Nat.pos_of_ne_zero (fun h => hne (BitVec.eq_of_toNat_eq h))
  exact AtStatusRead.pollEnds n s ⟨hr, hd, (polls_eq_isPollingOp hd).trans hop, hack, hs⟩ (by omega) (by omega) hwrap

end Sys2Proof.Machine
end

section
/-! SUPPORT. What a command's own moves (R51) keep: its dispatch, the end of its poll, of its frame and of its access,
and A_NEXT. -/

namespace Sys2Proof.Machine

@[simp] theorem dispatchOf_env (i : Instr) (s : State) : (dispatchOf i s).env = s.env := by cases i <;> rfl

@[simp] theorem dispatchOf_cw (i : Instr) (s : State) : (dispatchOf i s).cw = s.cw := by cases i <;> rfl

@[simp] theorem dispatchOf_init (i : Instr) (s : State) : (dispatchOf i s).init = s.init := by cases i <;> rfl

@[simp] theorem dispatchOf_csN (i : Instr) (s : State) : (dispatchOf i s).csN = s.csN := by cases i <;> rfl

@[simp] theorem dispatchOf_csOe (i : Instr) (s : State) : (dispatchOf i s).csOe = s.csOe := by cases i <;> rfl

@[simp] theorem dispatchOf_t0 (i : Instr) (s : State) : (dispatchOf i s).t0 = s.t0 := by cases i <;> rfl

@[simp] theorem dispatchOf_rdata (i : Instr) (s : State) : (dispatchOf i s).rdata = s.rdata := by cases i <;> rfl

@[simp] theorem afterPoll_env (i : Instr) (s : State) : (afterPoll i s).env = s.env := by cases i <;> rfl

@[simp] theorem afterPoll_cw (i : Instr) (s : State) : (afterPoll i s).cw = s.cw := by cases i <;> rfl

@[simp] theorem afterPoll_init (i : Instr) (s : State) : (afterPoll i s).init = s.init := by cases i <;> rfl

@[simp] theorem afterPoll_csN (i : Instr) (s : State) : (afterPoll i s).csN = s.csN := by cases i <;> rfl

@[simp] theorem afterPoll_csOe (i : Instr) (s : State) : (afterPoll i s).csOe = s.csOe := by cases i <;> rfl

@[simp] theorem afterPoll_t0 (i : Instr) (s : State) : (afterPoll i s).t0 = s.t0 := by cases i <;> rfl

@[simp] theorem afterPoll_rem (i : Instr) (s : State) : (afterPoll i s).rem = s.rem := by cases i <;> rfl

@[simp] theorem afterPoll_nb (i : Instr) (s : State) : (afterPoll i s).nb = s.nb := by cases i <;> rfl

@[simp] theorem afterPoll_rdata (i : Instr) (s : State) : (afterPoll i s).rdata = s.rdata := by cases i <;> rfl

@[simp] theorem afterPoll_sr (i : Instr) (s : State) : (afterPoll i s).sr = s.sr := by cases i <;> rfl

@[simp] theorem afterFrame_env (i : Instr) (s : State) : (afterFrame i s).env = s.env := by cases i <;> rfl

@[simp] theorem afterFrame_cw (i : Instr) (s : State) : (afterFrame i s).cw = s.cw := by cases i <;> rfl

@[simp] theorem afterFrame_init (i : Instr) (s : State) : (afterFrame i s).init = s.init := by cases i <;> rfl

@[simp] theorem afterFrame_csN (i : Instr) (s : State) : (afterFrame i s).csN = s.csN := by cases i <;> rfl

@[simp] theorem afterFrame_csOe (i : Instr) (s : State) : (afterFrame i s).csOe = s.csOe := by cases i <;> rfl

@[simp] theorem afterFrame_t0 (i : Instr) (s : State) : (afterFrame i s).t0 = s.t0 := by cases i <;> rfl

@[simp] theorem afterFrame_rdata (i : Instr) (s : State) : (afterFrame i s).rdata = s.rdata := by cases i <;> rfl

@[simp] theorem afterFrame_sr (i : Instr) (s : State) : (afterFrame i s).sr = s.sr := by cases i <;> rfl

@[simp] theorem afterClose_env (i : Instr) (s : State) : (afterClose i s).env = s.env := by cases i <;> rfl

@[simp] theorem afterClose_cw (i : Instr) (s : State) : (afterClose i s).cw = s.cw := by cases i <;> rfl

@[simp] theorem afterClose_init (i : Instr) (s : State) : (afterClose i s).init = s.init := by cases i <;> rfl

@[simp] theorem afterClose_csN (i : Instr) (s : State) : (afterClose i s).csN = s.csN := by cases i <;> rfl

@[simp] theorem afterClose_csOe (i : Instr) (s : State) : (afterClose i s).csOe = s.csOe := by cases i <;> rfl

@[simp] theorem afterClose_t0 (i : Instr) (s : State) : (afterClose i s).t0 = s.t0 := by cases i <;> rfl

@[simp] theorem afterClose_rdata (i : Instr) (s : State) : (afterClose i s).rdata = s.rdata := by cases i <;> rfl

@[simp] theorem afterClose_sr (i : Instr) (s : State) : (afterClose i s).sr = s.sr := by cases i <;> rfl

/-- A_NEXT writes `nb`, the outcome and the phase (R203). -/
theorem pageAdvance_writes (s : State) :
    pageAdvance s = { s with nb := (pageAdvance s).nb, result := (pageAdvance s).result, seq := (pageAdvance s).seq } := by
  rcases pageAdvance_cases s with ⟨-, h⟩ | ⟨-, -, h⟩ | ⟨-, -, h⟩ <;> rw [h] <;> rfl

@[simp] theorem pageAdvance_env (s : State) : (pageAdvance s).env = s.env := by rw [pageAdvance_writes]

@[simp] theorem pageAdvance_cw (s : State) : (pageAdvance s).cw = s.cw := by rw [pageAdvance_writes]

@[simp] theorem pageAdvance_init (s : State) : (pageAdvance s).init = s.init := by rw [pageAdvance_writes]

@[simp] theorem pageAdvance_csN (s : State) : (pageAdvance s).csN = s.csN := by rw [pageAdvance_writes]

@[simp] theorem pageAdvance_csOe (s : State) : (pageAdvance s).csOe = s.csOe := by rw [pageAdvance_writes]

@[simp] theorem pageAdvance_t0 (s : State) : (pageAdvance s).t0 = s.t0 := by rw [pageAdvance_writes]

@[simp] theorem pageAdvance_rdata (s : State) : (pageAdvance s).rdata = s.rdata := by rw [pageAdvance_writes]

@[simp] theorem pageAdvance_sr (s : State) : (pageAdvance s).sr = s.sr := by rw [pageAdvance_writes]

/-- A command starts with its first poll, or in A_NEXT (R51). -/
theorem dispatchOf_seq (i : Instr) (s : State) : (dispatchOf i s).seq = .pT0 ∨ (dispatchOf i s).seq = .aNext := by
  cases i <;> simp [dispatchOf]

/-- A poll that ends with WIP clear ends the command, or goes on with WREN or the frame (R51). -/
theorem afterPoll_seq (i : Instr) (s : State) :
    ((afterPoll i s).seq = .resp ∧ (afterPoll i s).result = .ok) ∨
    (afterPoll i s).seq = .eCsl ∨ (afterPoll i s).seq = .fCsl := by
  cases i <;> simp [afterPoll]

/-- A frame goes on with data, or closes (R51). -/
theorem afterFrame_seq (i : Instr) (s : State) :
    (afterFrame i s).seq = .dTx ∨ (afterFrame i s).seq = .dPop ∨ (afterFrame i s).seq = .dRx ∨
    (afterFrame i s).seq = .fCsh := by
  rcases afterFrame_cases i s with ⟨_, _, -, h⟩ | ⟨_, _, -, h⟩ | ⟨_, _, -, -, h⟩ | ⟨_, _, -, -, h⟩ | ⟨-, -, h⟩ <;>
    simp [h]

/-- A closed access ends the command, or goes on in A_NEXT (R51). -/
theorem afterClose_seq (i : Instr) (s : State) :
    ((afterClose i s).seq = .resp ∧ (afterClose i s).result = .ok) ∨ (afterClose i s).seq = .aNext := by
  cases i <;> simp [afterClose]

/-- A_NEXT ends the command, but never with BUSY, or polls for the next burst (R203). -/
theorem pageAdvance_seq (s : State) :
    ((pageAdvance s).seq = .resp ∧ (pageAdvance s).result ≠ .busy) ∨ (pageAdvance s).seq = .pT0 := by
  rcases pageAdvance_cases s with ⟨-, h⟩ | ⟨-, -, h⟩ | ⟨-, -, h⟩ <;> simp [h]

end Sys2Proof.Machine
end

section
/-! SUPPORT. Chip-select in one step (R54, R242): O54. -/

namespace Sys2Proof.Machine

/-- The level follows the phase in every step: Cs(0) and Cs(1) move both, a reset returns both, and every other step
stays on its side. -/
theorem EngineStep.chipSelect {s t : State} (h : EngineStep s t) (hc : ChipSelectInv s) : ChipSelectInv t := by
  unfold ChipSelectInv at hc ⊢
  cases h with
  | reset | pollOpen | wrenOpen | frameOpen | wrdiOpen | beginCsHigh | pollBusy | wrenClose | wrdiClose => rfl
  | start _ hs i => rcases dispatchOf_seq i s with h | h <;> simp [h, csLow, hc, hs]
  | pollReady _ _ i => rcases afterPoll_seq i (csDeassert s) with ⟨h, -⟩ | h | h <;> simp [h, csLow]
  | frameSecond _ hs i => rcases afterFrame_seq i _ with h | h | h | h <;> rw [h] <;> simp [csLow, hc, hs]
  | close _ _ i => rcases afterClose_seq i (csDeassert s) with ⟨h, -⟩ | h <;> simp [h, csLow]
  | pageAdvance _ hs => rcases pageAdvance_seq s with ⟨h, -⟩ | h <;> simp [h, csLow, hc, hs]
  | pollTime _ hs | sendArrayByte _ hs | push _ hs => simp [hc, hs]; split <;> rfl
  | _ _ hs => simp [csLow, hc, hs]

/-- Settles O54, by the cases of a step. -/
theorem chipSelectInvariantKept : Obligations.ChipSelectInvariantKept :=
  fun _ _ hc h => (step_engineStep h).chipSelect hc

end Sys2Proof.Machine
end

section
/-! SUPPORT. Which instruction a step runs, and the taking of a command (R31, R43, R50 to R52): O7, O9, O10. -/

namespace Sys2Proof.Machine

/-- The step at WRDI's phases of the model's own (R172; log 12). -/
theorem step_wrdi {s : State} (hr : s.env.rst = 0) (hs : s.seq = .wrdiCsl ∨ s.seq = .wrdiCmd ∨ s.seq = .wrdiCsh) :
    step s = exec .wrdi s := by
  rcases hs with hs | hs | hs <;> simp [step, hr, hs, instrInFlight]

/-- The step at WRSR's phase of the model's own (R104; log 13). -/
theorem step_wrsr {s : State} (hr : s.env.rst = 0) (hs : s.seq = .wrsr) : step s = exec .wrsr s := by
  simp [step, hr, hs, instrInFlight]

/-- Settles O7, by the step of an instruction in flight. -/
theorem stepRunsTheDecodedInstruction : Obligations.StepRunsTheDecodedInstruction :=
  fun _ _ hr => ⟨fun hs hb hd => step_exec hr hs hb hd, step_wrdi hr, step_wrsr hr⟩

/-- IDLE latches the command presented first (R31, R43, R52). -/
theorem step_take {s : State} {w : Word64} {rest : List Word64} (hr : s.env.rst = 0) (hs : s.seq = .idle)
    (hc : s.env.cmds = w :: rest) :
    step s = .next (latch w { s with env := { s.env with cmds := rest } }) := by
  rw [step_idle hr hs]
  exact acceptCommand_next.2 ⟨w, rest, hc, rfl⟩

/-- Settles O9, by the step that takes a command. -/
theorem acceptanceLatchesTheCommand : Obligations.AcceptanceLatchesTheCommand :=
  fun _ _ _ hr hs hc => ⟨_, step_take hr hs hc, rfl, rfl, rfl, rfl⟩

/-- `cmd_ready` shows IDLE (R31). -/
theorem outPorts_cmdReady (s : State) : (outPorts s).cmdReady = true ↔ s.seq = .idle := beq_iff_eq

theorem ne_idle_of_cmdReady {s : State} (h : (outPorts s).cmdReady = false) : s.seq ≠ .idle :=
  fun hi => by simp [(outPorts_cmdReady s).2 hi] at h

/-- A step with `rst` = 1 (R260). -/
theorem step_reset {s : State} (hr : s.env.rst ≠ 0) : step s = .next (resetStep s) := if_pos hr

/-- Past IDLE no step takes a command, and none but a reset changes the latched word (R31, R43). -/
theorem EngineStep.command {s t : State} (h : EngineStep s t) (hi : s.seq ≠ .idle) :
    t.env.cmds = s.env.cmds ∧ (s.env.rst = 0 → t.cw = s.cw) := by
  cases h with
  | reset hr => exact ⟨by simp, fun h => absurd h hr⟩
  | take _ hs => exact absurd hs hi
  | _ => simp

/-- Settles O10: the taking step, the steps past IDLE, and the reset step. -/
theorem commandsAreTakenOnlyInIdle : Obligations.CommandsAreTakenOnlyInIdle := by
  refine ⟨outPorts_cmdReady, fun s hr hs hc => ?_, fun s t h hb => ?_, fun s hr => ?_, fun s t h hr hb => ?_⟩
  · obtain ⟨w, rest, hw⟩ := List.exists_cons_of_ne_nil hc
    exact ⟨_, step_take hr hs hw, hw⟩
  · exact ((step_engineStep h).command (ne_idle_of_cmdReady hb)).1
  · exact ⟨_, step_reset hr, by simp⟩
  · exact ((step_engineStep h).command (ne_idle_of_cmdReady hb)).2 hr

end Sys2Proof.Machine
end

section
/-! SUPPORT. What a reset step leaves (R60, R61, R260 to R263): O14, O15. -/

open Sys2Proof.Claims

namespace Sys2Proof.Machine

/-- The views of a command word of zeros (R43, R60). -/
theorem fields_zero : fieldOp 0#64 = 0#4 ∧ fieldAddr 0#64 = 0#24 ∧ fieldArg 0#64 = 0#24 := by decide

/-- The registers and ports a reset step leaves (R60). -/
theorem resetStep_holdsResetValues (s : State) : HoldsResetValues (resetStep s) := by
  simp [HoldsResetValues, State.op, State.addr, State.arg, fields_zero, outPorts, spiRequest]

/-- Settles O14, by the values of the reset step and of the initial state. -/
theorem resetRestoresRegistersAndPorts : Obligations.ResetRestoresRegistersAndPorts := by
  refine ⟨fun s hr => ⟨_, step_reset hr, resetStep_holdsResetValues s, rfl, rfl⟩, ?_⟩
  simp [HoldsResetValues, State.reset, State.op, State.addr, State.arg, fields_zero, outPorts, spiRequest]

/-- A reset that cuts off no WRITE leaves the array as it was (R61, R262). -/
theorem Device.cutOff_mem {d : Device} (n : Nat)
    (h : ¬(d.mode = .reference ∧ d.sel = true ∧ d.ins = Config.opWrite ∧ 4 ≤ d.pos)) :
    (d.cutOff n).mem = d.mem := by
  unfold Device.cutOff
  rw [if_neg h, Device.deselect_mem]

/-- The cells of a cut-off burst lie in the pages it names (R71, R262). -/
theorem page_of_mem_cutCells {draw a n : Nat} {c : Host.Cell} (hn : 1 ≤ n) (h : c ∈ cutCells draw a n) :
    page a ≤ page c.1 ∧ page c.1 ≤ page (a + n - 1) := by
  have hle : page a ≤ page (a + n - 1) := Nat.div_le_div_right (by omega)
  obtain ⟨x, hx, rfl⟩ := List.mem_map.1 h
  rw [List.mem_range'_1] at hx
  simp only [page, Config.pageSize] at hx hle ⊢
  omega

/-- Settles O15: the device's own cut, and the pages of the cells it writes. -/
theorem resetTouchesOnlyCutPages : Obligations.ResetTouchesOnlyCutPages := by
  intro s t hr h
  rw [step_reset hr, next_eq_iff] at h
  subst h
  refine ⟨fun hcut => by simp [Device.cutOff_mem _ hcut], fun x hx => ?_⟩
  rw [resetStep_dev]
  refine Device.cutOff_read_other _ _ _ fun c hc heq => ?_
  obtain ⟨hlo, hhi⟩ := page_of_mem_cutCells (by omega) hc
  rw [heq] at hlo hhi
  simp only [page, Config.pageSize] at hlo hhi
  omega

end Sys2Proof.Machine
end

section
/-! SUPPORT. The clock and the start of a poll in one step (R37, R247): O50. -/

namespace Sys2Proof.Machine

/-- Only POLL's two NOW() steps sample the clock, and only the first of them and a reset write `t0` (R37, R150). -/
theorem EngineStep.clock {s t : State} (h : EngineStep s t) (h0 : s.seq ≠ .pT0) (h1 : s.seq ≠ .pTime) :
    t.env.now = s.env.now ∧ t.env.ticks = s.env.ticks ∧ (s.env.rst = 0 → t.t0 = s.t0) := by
  cases h with
  | reset hr => exact ⟨by simp, by simp, fun h => absurd h hr⟩
  | pollStart _ hs => exact absurd hs h0
  | pollTime _ hs => exact absurd hs h1
  | _ => simp

/-- Settles O50, by the cases of a step. -/
theorem clockIsReadOnlyInPoll : Obligations.ClockIsReadOnlyInPoll :=
  fun _ _ h h0 h1 => (step_engineStep h).clock h0 h1

end Sys2Proof.Machine
end

section
/-! SUPPORT. The invariants at reset (R54, R60): O60. -/

namespace Sys2Proof.Machine

theorem reset_chipSelectInv : ChipSelectInv State.reset := rfl

theorem reset_engineInv : EngineInv State.reset where
  chipSelect := rfl
  owned := by decide
  driven := by decide
  status := by decide
  counts := by decide
  rdata := by decide

theorem reset_codesInv : CodesInv State.reset where
  codes := by simp [State.reset, instructionBytes]
  noBare := rfl
  notFirst _ := rfl

theorem reset_armedInv : ArmedInv State.reset := by
  constructor
  case armedWrites => rfl
  all_goals simp [State.reset]

/-- Settles O60, invariant by invariant. -/
theorem invariantsHoldAtReset : Obligations.InvariantsHoldAtReset :=
  ⟨reset_chipSelectInv, reset_engineInv, reset_codesInv, reset_armedInv, rfl⟩

end Sys2Proof.Machine
end

section
/-! SUPPORT. The phase stays the latched command's own (R42, R51, R235): the clause `owned` of O55. -/

namespace Sys2Proof.Machine

theorem owns_pollPhase {i : Instr} {p : Phase} (hi : polls i = true) (hp : isPollPhase p = true) :
    owns i p = true := by
  cases i <;> simp [polls] at hi <;> simp [owns, hp]

theorem owns_wrenPhase {i : Instr} {p : Phase} (hi : writes i = true) (hp : isWrenPhase p = true) :
    owns i p = true := by
  cases i <;> simp [writes] at hi <;> simp [owns, hp]

theorem owns_framePhase {i : Instr} {p : Phase} (hi : (writes i || reads i) = true) (hp : isFramePhase p = true) :
    owns i p = true := by
  cases i <;> simp [writes, reads] at hi <;> simp [owns, hp]

theorem owns_dispatchOf {i : Instr} (s : State) (hi : polls i = true) : owns i (dispatchOf i s).seq = true := by
  cases i <;> simp [polls] at hi <;> rfl

theorem owns_afterPoll {i : Instr} (s : State) (hi : polls i = true) :
    (afterPoll i s).seq = .resp ∨ owns i (afterPoll i s).seq = true := by
  cases i <;> simp [polls] at hi <;> simp [afterPoll, owns, isWrenPhase, isFramePhase]

theorem owns_afterFrame {i : Instr} (s : State) (hi : (writes i || reads i) = true) :
    owns i (afterFrame i s).seq = true := by
  cases i with
  | writeByte | writeArray | readByte => rfl
  | readArray =>
    simp only [afterFrame, readOrClose, goto_seq]
    split <;> rfl
  | _ => simp [writes, reads] at hi

theorem owns_afterClose {i : Instr} (s : State) (hi : (writes i || reads i) = true) :
    (afterClose i s).seq = .resp ∨ owns i (afterClose i s).seq = true := by
  cases i <;> simp [writes, reads] at hi <;> simp [afterClose, owns]

theorem owns_pageAdvance (addr : Addr) (len : Len) (s : State) :
    (pageAdvance s).seq = .resp ∨ owns (.writeArray addr len) (pageAdvance s).seq = true := by
  rcases pageAdvance_cases s with ⟨-, h⟩ | ⟨-, -, h⟩ | ⟨-, -, h⟩ <;> simp [h, owns, isPollPhase]

/-- Between ACCEPT and RESP: the phases that belong to one operation alone (R51). -/
def inOperation (p : Phase) : Prop :=
  p ≠ .idle ∧ p ≠ .accept ∧ p ≠ .resp

theorem inOperation_of_owns {i : Instr} {p : Phase} (ho : owns i p = true) : inOperation p := by
  refine ⟨?_, ?_, ?_⟩ <;> rintro rfl <;> cases i <;> simp [owns, isPollPhase, isWrenPhase, isFramePhase] at ho

/-- The phase and `init` of an operation under way (R42, R51). -/
theorem phaseOwned_iff {s : State} {i : Instr} (hd : decode (.host s.cw) = .ok i) (hs : inOperation s.seq) :
    phaseOwned s = true ↔ owns i s.seq = true ∧ s.init = !isBegin i := by
  obtain ⟨h1, h2, h3⟩ := hs
  unfold phaseOwned
  rw [hd]
  split
  · exact absurd ‹_› h1
  · exact absurd ‹_› h2
  · exact absurd ‹_› h3
  · rw [Bool.and_eq_true, bne_iff_ne, Bool.eq_not]

/-- Outside the operations every command is at home (R51). -/
theorem phaseOwned_outside {s : State} (hs : s.seq = .idle ∨ s.seq = .accept ∨ s.seq = .resp) :
    phaseOwned s = true := by
  rcases hs with hs | hs | hs <;> simp [phaseOwned, hs]

/-- No command owns a phase of the model's own (log 12, log 13). -/
theorem not_bare_of_phaseOwned {s : State} (ho : phaseOwned s = true) : isBare s.seq = false := by
  rcases phaseOwned_cases ho with hs | hs | hs | ⟨i, -, hi⟩
  · simp [hs, isBare]
  · simp [hs, isBare]
  · simp [hs, isBare]
  · exact (not_idle_not_bare_of_owns hi).2

/-- A command whose next phase is its own again, or RESP, is still at home. -/
theorem phaseOwned_move {s t : State} {i : Instr} (ho : phaseOwned s = true) (hd : decode (.host s.cw) = .ok i)
    (hs : inOperation s.seq) (hq : t.seq = .resp ∨ owns i t.seq = true)
    (hcw : t.cw = s.cw := by simp) (hi : t.init = s.init := by simp) : phaseOwned t = true := by
  rcases hq with hq | hq
  · exact phaseOwned_outside (.inr (.inr hq))
  · refine (phaseOwned_iff (by rw [hcw, hd]) (inOperation_of_owns hq)).2 ⟨hq, ?_⟩
    rw [hi]
    exact ((phaseOwned_iff hd hs).1 ho).2

/-- Every step leads to a phase of the command in flight, or out of every operation (R51). -/
theorem EngineStep.owned {s t : State} (h : EngineStep s t) (ho : phaseOwned s = true) : phaseOwned t = true := by
  cases h with
  | reset | take | respond | rejectIllegal | rejectClock | rejectAgain | rejectNotInit | rejectBounds
  | beginSpiConfig | pollBusy => exact phaseOwned_outside (by simp)
  | startBegin _ _ csid clkhz hd _ hi =>
    exact (phaseOwned_iff (i := .begin csid clkhz) (by simpa using hd) (by simp [inOperation])).2 ⟨rfl, hi⟩
  | start _ _ i hd hp hi =>
    have hown := owns_dispatchOf s hp
    refine (phaseOwned_iff (i := i) (by simpa using hd) (inOperation_of_owns hown)).2 ⟨hown, ?_⟩
    cases i <;> simp [polls] at hp <;> simp [hi, isBegin]
  | beginCsConfig _ hs _ _ hd | beginCsHigh _ hs _ _ hd =>
    exact phaseOwned_move ho hd (by simp [inOperation, hs]) (.inr rfl)
  | pollStart _ hs i hd hp | pollOpen _ hs i hd hp | pollCommand _ hs i hd hp | pollStatus _ hs i hd hp =>
    exact phaseOwned_move ho hd (by simp [inOperation, hs]) (.inr (owns_pollPhase hp rfl))
  | pollTime _ hs i hd hp =>
    refine phaseOwned_move ho hd (by simp [inOperation, hs]) (.inr (owns_pollPhase hp ?_))
    simp only
    split <;> rfl
  | pollReady _ hs i hd hp =>
    exact phaseOwned_move ho hd (by simp [inOperation, hs]) (owns_afterPoll _ hp)
  | wrenOpen _ hs i hd hp | wrenCommand _ hs i hd hp =>
    exact phaseOwned_move ho hd (by simp [inOperation, hs]) (.inr (owns_wrenPhase hp rfl))
  | wrenClose _ hs i hd hp =>
    exact phaseOwned_move ho hd (by simp [inOperation, hs]) (.inr (owns_framePhase (by simp [hp]) rfl))
  | frameOpen _ hs i hd hp | frameFirst _ hs i hd hp =>
    exact phaseOwned_move ho hd (by simp [inOperation, hs]) (.inr (owns_framePhase hp rfl))
  | frameSecond _ hs i hd hp =>
    exact phaseOwned_move ho hd (by simp [inOperation, hs]) (.inr (owns_afterFrame _ hp))
  | sendByte _ hs _ _ hd | receiveByte _ hs _ hd | pop _ hs _ _ hd | receiveArrayByte _ hs _ _ hd =>
    exact phaseOwned_move ho hd (by simp [inOperation, hs]) (.inr rfl)
  | sendArrayByte _ hs _ _ hd | push _ hs _ _ hd =>
    refine phaseOwned_move ho hd (by simp [inOperation, hs]) (.inr ?_)
    simp only
    split <;> rfl
  | close _ hs i hd hp =>
    exact phaseOwned_move ho hd (by simp [inOperation, hs]) (owns_afterClose _ hp)
  | pageAdvance _ hs addr len hd =>
    exact phaseOwned_move ho hd (by simp [inOperation, hs]) (owns_pageAdvance addr len s)
  | wrdiOpen _ hs | wrdiCommand _ hs | wrdiClose _ hs =>
    exact absurd (not_bare_of_phaseOwned ho) (by simp [hs, isBare])

end Sys2Proof.Machine
end

section
/-! SUPPORT. The chip-select driver, the status byte and RDATA in one step (R96, R132, R134, R141, R231): the clauses
`driven`, `status` and `rdata` of O55. -/

namespace Sys2Proof.Machine

/-- BEGIN's phases after B_CSCFG (R141). -/
def bringUp : Phase → Bool
  | .bCsh | .bSpicfg => true
  | _ => false

theorem lineDriven_iff (s : State) : lineDriven s = true ↔ s.csOe = (s.init || bringUp s.seq) := by
  unfold lineDriven
  cases hs : s.seq <;> cases s.init <;> simp [bringUp] <;> rfl

/-- The driver is switched on by B_CSCFG and off by a reset; `init` takes over from BEGIN's phases (R41, R141). -/
theorem EngineStep.driven {s t : State} (h : EngineStep s t) (hl : lineDriven s = true) : lineDriven t = true := by
  rw [lineDriven_iff] at hl ⊢
  cases h with
  | reset => rfl
  | beginCsConfig => simp [bringUp]
  | beginSpiConfig _ hs => simp [bringUp, hl, hs]
  | start _ hs i => rcases dispatchOf_seq i s with h | h <;> simp [h, bringUp, hl, hs]
  | pollReady _ hs i => rcases afterPoll_seq i (csDeassert s) with ⟨h, -⟩ | h | h <;> simp [h, bringUp, hl, hs]
  | frameSecond _ hs i => rcases afterFrame_seq i _ with h | h | h | h <;> rw [h] <;> simp [bringUp, hl, hs]
  | close _ hs i => rcases afterClose_seq i (csDeassert s) with ⟨h, -⟩ | h <;> simp [h, bringUp, hl, hs]
  | pageAdvance _ hs => rcases pageAdvance_seq s with ⟨h, -⟩ | h <;> simp [h, bringUp, hl, hs]
  | pollTime _ hs | sendArrayByte _ hs | push _ hs => simp [hl, hs]; split <;> rfl
  | _ _ hs => simp [bringUp, hl, hs]

/-- What the last status byte says where it matters (R96, R152, R231). -/
theorem statusOk_iff (s : State) :
    statusOk s = true ↔
      (isAccessPhase s.seq = true → wipSet s.sr = false) ∧
      (s.seq = .pCsh → pollContinues s.params s.sr s.el = false) ∧
      (s.seq = .resp → s.result = .busy →
        wipSet s.sr = true ∧ s.params.busyTimeoutMs.toNat ≤ s.el.toNat) := by
  simp [statusOk, imp_iff_not_or, or_assoc, and_assoc]

/-- Outside P_CSH, and with no outcome BUSY, only a device access asks for a status byte (R96). -/
theorem statusOk_of {t : State} (ha : isAccessPhase t.seq = true → wipSet t.sr = false) (hp : t.seq ≠ .pCsh)
    (hr : t.seq = .resp → t.result ≠ .busy) : statusOk t = true :=
  (statusOk_iff t).2 ⟨ha, fun h => absurd h hp, fun h hb => absurd hb (hr h)⟩

/-- WIP was clear when the device access began, and the status byte stays the poll's (R96, R152, R153). -/
theorem EngineStep.status {s t : State} (h : EngineStep s t) (hs : statusOk s = true) : statusOk t = true := by
  obtain ⟨haccess, hclosing, -⟩ := (statusOk_iff s).1 hs
  cases h with
  | reset | take | respond | rejectIllegal | rejectClock | rejectAgain | startBegin | rejectNotInit | rejectBounds
  | beginCsConfig | beginCsHigh | beginSpiConfig | pollStart | pollOpen | pollCommand | pollStatus
  | wrdiOpen | wrdiCommand | wrdiClose =>
    exact statusOk_of (by simp [isAccessPhase, isWrenPhase, isFramePhase]) (by simp) (by simp)
  | start _ _ i =>
    rcases dispatchOf_seq i s with h | h <;>
      exact statusOk_of (by simp [h, isAccessPhase, isWrenPhase, isFramePhase]) (by simp [h]) (by simp [h])
  | pageAdvance =>
    rcases pageAdvance_seq s with ⟨h, hb⟩ | h <;>
      exact statusOk_of (by simp [h, isAccessPhase, isWrenPhase, isFramePhase]) (by simp [h]) (by simp [*])
  | pollTime =>
    rw [statusOk_iff]
    simp only
    split <;> rename_i hc <;> simp [isAccessPhase, isWrenPhase, isFramePhase]
    exact Bool.eq_false_iff.2 hc
  | pollBusy _ hp _ _ _ hw =>
    rcases pollContinues_eq_false.1 (hclosing hp) with hclear | hlate
    · exact absurd hclear (by simpa [wipSet] using hw)
    · rw [statusOk_iff]
      simp [isAccessPhase, isWrenPhase, isFramePhase, hw, hlate]
  | pollReady _ _ i _ _ hw =>
    rcases afterPoll_seq i (csDeassert s) with ⟨h, hb⟩ | h | h <;>
      exact statusOk_of (fun _ => by simpa using hw) (by simp [h]) (by simp [*])
  | frameSecond _ hp i =>
    have hw : wipSet s.sr = false := haccess (by simp [hp, isAccessPhase, isWrenPhase, isFramePhase])
    rcases afterFrame_seq i _ with h | h | h | h <;>
      exact statusOk_of (fun _ => by simpa using hw) (by rw [h]; simp) (by rw [h]; simp)
  | close _ hp i =>
    have hw : wipSet s.sr = false := haccess (by simp [hp, isAccessPhase])
    rcases afterClose_seq i (csDeassert s) with ⟨h, hb⟩ | h <;>
      exact statusOk_of (fun _ => by simpa using hw) (by simp [h]) (by simp [*])
  | sendArrayByte _ hp | push _ hp =>
    have hw : wipSet s.sr = false := haccess (by simp [hp, isAccessPhase])
    refine statusOk_of (fun _ => by simpa using hw) ?_ ?_ <;> simp only <;> split <;> simp
  | wrenOpen _ hp | wrenCommand _ hp | wrenClose _ hp | frameOpen _ hp | frameFirst _ hp | sendByte _ hp
  | receiveByte _ hp | pop _ hp | receiveArrayByte _ hp =>
    have hw : wipSet s.sr = false := haccess (by simp [hp, isAccessPhase, isWrenPhase, isFramePhase])
    exact statusOk_of (fun _ => by simpa using hw) (by simp) (by simp)

theorem rdataOk_iff (s : State) : rdataOk s = true ↔ s.rdata = 0#8 ∨ s.op = 0x3#4 := by
  simp [rdataOk]

/-- Acceptance clears `rdata` and only READ_BYTE writes it (R43, R132, R185). -/
theorem EngineStep.rdata {s t : State} (h : EngineStep s t) (hr : rdataOk s = true) : rdataOk t = true := by
  rw [rdataOk_iff, State.op] at *
  cases h with
  | reset | take => exact .inl rfl
  | receiveByte _ _ addr hd =>
    rcases decode_host_cases hd with h | h | ⟨hop, -⟩ | h | h | h
    case inr.inr.inl => exact .inr (by simpa using hop)
    all_goals exact absurd h.2 (by simp)
  | _ => simpa using hr

end Sys2Proof.Machine
end

section
/-! SUPPORT. The byte counts and the page splitter in one step (R133, R200 to R205, R210): the clause `counts` of
O55. -/

namespace Sys2Proof.Machine

/-- A burst has at least one byte, no more than are left, and ends with its page or with the command (R203). -/
theorem burstLength_spec {cur : BitVec 25} {rem : Len} (h : rem ≠ 0#24) :
    1 ≤ (burstLength cur rem).toNat ∧ (burstLength cur rem).toNat ≤ rem.toNat ∧
    offset cur.toNat + (burstLength cur rem).toNat ≤ Config.pageSize ∧
    (offset cur.toNat + (burstLength cur rem).toNat = Config.pageSize ∨
      burstLength cur rem = rem.setWidth 10 ∧ rem.toNat ≤ 512) := by
  have hpos : 0 < rem.toNat := Nat.pos_of_ne_zero fun h0 => h (BitVec.eq_of_toNat_eq h0)
  have hlen : (burstLength cur rem).toNat = min (512 - cur.toNat % 512) rem.toNat := by
    simp only [burstLength, offset, Config.pageSize, BitVec.toNat_ofNat]
    omega
  simp only [offset, Config.pageSize, hlen]
  refine ⟨by omega, by omega, by omega, ?_⟩
  rcases Nat.le_total (512 - cur.toNat % 512) rem.toNat with hle | hle
  · omega
  · refine .inr ⟨BitVec.eq_of_toNat_eq ?_, by omega⟩
    rw [hlen, BitVec.toNat_setWidth]
    omega

/-- WRITE_ARRAY's cursor and its bytes done and left agree (R202, R205). -/
def AtCursor (addr : Addr) (len : Len) (s : State) : Prop :=
  s.cnt.toNat + s.rem.toNat = len.toNat ∧ s.cur.toNat = addr.toNat + s.cnt.toNat

/-- WRITE_ARRAY inside a burst: bytes are owed, and they stay in the page (R203, R204). -/
def InBurst (s : State) : Prop :=
  1 ≤ s.nb.toNat ∧ s.nb.toNat ≤ s.rem.toNat ∧ offset s.cur.toNat + s.nb.toNat ≤ Config.pageSize ∧
  (offset s.cur.toNat + s.nb.toNat = Config.pageSize ∨ s.nb = s.rem.setWidth 10 ∧ s.rem.toNat ≤ 512) ∧
  page s.cur.toNat < Config.numPages

/-- What the count registers hold from the poll to the frame's second word (R133, R203). -/
def StartCounts (i : Instr) (s : State) : Prop :=
  match i with
  | .writeArray addr len =>
    AtCursor addr len s ∧ s.nb = burstLength s.cur s.rem ∧ s.rem ≠ 0#24 ∧ page s.cur.toNat < Config.numPages
  | .readArray _ len => s.cnt = 0#24 ∧ s.rem = len
  | _ => s.cnt = 0#24

/-- A command's phases from its poll to its frame's second word (R51). -/
def beforeData (i : Instr) (p : Phase) : Prop :=
  isPollPhase p = true ∨ (writes i = true ∧ isWrenPhase p = true) ∨ isFramePhase p = true

theorem beforeData_facts {i : Instr} {p : Phase} (h : beforeData i p) :
    (isPollPhase p || isWrenPhase p || isFramePhase p) = true ∧
    (writes i = false → (isPollPhase p || isFramePhase p) = true) ∧
    p ≠ .idle ∧ p ≠ .accept ∧ p ≠ .resp ∧ p ≠ .fCsh ∧ p ≠ .dRx ∧ p ≠ .dPush := by
  rcases h with h | ⟨hw, h⟩ | h
  · rcases isPollPhase_iff.1 h with rfl | rfl | rfl | rfl | rfl | rfl <;> simp [isPollPhase]
  · rcases isWrenPhase_iff.1 h with rfl | rfl | rfl <;> simp [isWrenPhase, hw]
  · rcases isFramePhase_iff.1 h with rfl | rfl | rfl <;> simp [isFramePhase]

theorem countsOk_beforeData {i : Instr} {s : State} (hd : decode (.host s.cw) = .ok i) (hb : beforeData i s.seq) :
    countsOk s = true ↔ StartCounts i s := by
  obtain ⟨hsplit, hread, hidle, haccept, hresp, hclose, hrx, hpush⟩ := beforeData_facts hb
  cases i with
  | writeArray addr len =>
    simp [countsOk, splitterOk, StartCounts, AtCursor, hd, hsplit, hidle, haccept, hresp, and_assoc]
  | readArray addr len =>
    have hlen : s.cnt.toNat + s.rem.toNat = len.toNat ∧ s.cnt = 0#24 ↔ s.cnt = 0#24 ∧ s.rem = len := by
      rw [and_comm, and_congr_right_iff]
      intro h0
      simp [h0, BitVec.toNat_inj]
    simpa [countsOk, StartCounts, hd, hread rfl, hidle, haccept, hresp, hclose, hrx, hpush] using hlen
  | _ => simp [countsOk, StartCounts, hd, hidle, hresp, hclose]

theorem countsOk_idle {s : State} (hs : s.seq = .idle) : countsOk s = true := by
  unfold countsOk
  split <;> simp [hs]

/-- In ACCEPT no byte is done, whatever the word (R43). -/
theorem countsOk_accept {s : State} (hs : s.seq = .accept) : countsOk s = true ↔ s.cnt = 0#24 := by
  unfold countsOk
  split <;> simp [hs]

/-- A command that ends otherwise than with OK, before any byte. -/
theorem countsOk_refused {s : State} (hs : s.seq = .resp) (hr : s.result ≠ .ok) (hc : s.cnt = 0#24) :
    countsOk s = true := by
  unfold countsOk
  split <;> simp [hs, hr, hc]


section WriteArray

variable {s : State} {addr : Addr} {len : Len}

theorem countsOk_writeArray_resp (hd : decode (.host s.cw) = .ok (.writeArray addr len)) (hs : s.seq = .resp) :
    countsOk s = true ↔ s.result = .ok → s.cnt = len := by
  simp [countsOk, hd, hs, imp_iff_not_or]

theorem countsOk_writeArray_aNext (hd : decode (.host s.cw) = .ok (.writeArray addr len)) (hs : s.seq = .aNext) :
    countsOk s = true ↔ AtCursor addr len s := by
  simp [countsOk, splitterOk, AtCursor, hd, hs, isPollPhase, isWrenPhase, isFramePhase]

theorem countsOk_writeArray_burst (hd : decode (.host s.cw) = .ok (.writeArray addr len))
    (hs : s.seq = .dPop ∨ s.seq = .dTx) : countsOk s = true ↔ AtCursor addr len s ∧ InBurst s := by
  rcases hs with hs | hs <;>
    simp [countsOk, splitterOk, AtCursor, InBurst, hd, hs, isPollPhase, isWrenPhase, isFramePhase, and_assoc]

theorem countsOk_writeArray_close (hd : decode (.host s.cw) = .ok (.writeArray addr len)) (hs : s.seq = .fCsh) :
    countsOk s = true ↔
      AtCursor addr len s ∧ s.nb = 0#10 ∧ (s.rem = 0#24 ∨ offset s.cur.toNat = 0) := by
  simp [countsOk, splitterOk, AtCursor, hd, hs, isPollPhase, isWrenPhase, isFramePhase, and_assoc]

/-- The cursor starts at the command's address, with every byte still to come (R200). -/
theorem atCursor_start (hc : s.cnt = 0#24) :
    AtCursor addr len { s with cur := addr.setWidth 25, rem := len, seq := .aNext } := by
  have := addr.isLt
  refine ⟨by simp [hc], ?_⟩
  simp only [hc, BitVec.toNat_setWidth, BitVec.toNat_ofNat]
  omega

/-- One byte sent moves the cursor on by one (R204, R205). -/
theorem AtCursor.sent {t : State} (h : AtCursor addr len s) (hrem : 1 ≤ s.rem.toNat) (hcnt : t.cnt = s.cnt + 1#24)
    (htrem : t.rem = s.rem - 1#24) (hcur : t.cur = s.cur + 1#25) : AtCursor addr len t := by
  obtain ⟨hsum, hat⟩ := h
  have := len.isLt
  have := addr.isLt
  rw [AtCursor, hcnt, htrem, hcur]
  bv_omega

/-- The last byte of a burst ends the command or the page (R203, R204). -/
theorem InBurst.last (h : InBurst s) (hnb : s.nb - 1#10 = 0#10) :
    s.rem - 1#24 = 0#24 ∨ offset (s.cur + 1#25).toNat = 0 := by
  obtain ⟨hpos, hle, -, hend, hpage⟩ := h
  simp only [offset, page, Config.pageSize, Config.numPages] at *
  have h1 : s.nb.toNat = 1 := by bv_omega
  rcases hend with hend | ⟨hrem, hsmall⟩
  · right; bv_omega
  · left
    have : s.nb.toNat = s.rem.toNat % 2 ^ 10 := by rw [hrem, BitVec.toNat_setWidth]
    bv_omega

/-- A burst that is not over stays in its page (R203, R204). -/
theorem InBurst.sent {t : State} (h : InBurst s) (hnb : s.nb - 1#10 ≠ 0#10) (htnb : t.nb = s.nb - 1#10)
    (htrem : t.rem = s.rem - 1#24) (hcur : t.cur = s.cur + 1#25) : InBurst t := by
  obtain ⟨hpos, hle, hin, hend, hpage⟩ := h
  have h1 : t.nb.toNat = s.nb.toNat - 1 ∧ 2 ≤ s.nb.toNat := by rw [htnb]; bv_omega
  have h2 : t.rem.toNat = s.rem.toNat - 1 := by rw [htrem]; bv_omega
  simp only [InBurst, offset, page, Config.pageSize, Config.numPages] at *
  have h3 : t.cur.toNat = s.cur.toNat + 1 := by rw [hcur]; bv_omega
  obtain ⟨hnb1, hnb2⟩ := h1
  refine ⟨by omega, by omega, by omega, ?_, by omega⟩
  rcases hend with hend | ⟨hrem, hsmall⟩
  · left; omega
  · refine .inr ⟨BitVec.eq_of_toNat_eq ?_, by omega⟩
    have : s.nb.toNat = s.rem.toNat % 2 ^ 10 := by rw [hrem, BitVec.toNat_setWidth]
    rw [BitVec.toNat_setWidth]
    omega

end WriteArray

section ReadArray

variable {s : State} {addr : Addr} {len : Len}

theorem countsOk_readArray_resp (hd : decode (.host s.cw) = .ok (.readArray addr len)) (hs : s.seq = .resp) :
    countsOk s = true ↔ s.cnt = if s.result = .ok then len else 0#24 := by
  simp [countsOk, hd, hs]

theorem countsOk_readArray_data (hd : decode (.host s.cw) = .ok (.readArray addr len))
    (hs : s.seq = .dRx ∨ s.seq = .dPush) :
    countsOk s = true ↔ s.cnt.toNat + s.rem.toNat = len.toNat ∧ s.rem ≠ 0#24 := by
  rcases hs with hs | hs <;> simp [countsOk, hd, hs, isPollPhase, isFramePhase]

theorem countsOk_readArray_close (hd : decode (.host s.cw) = .ok (.readArray addr len)) (hs : s.seq = .fCsh) :
    countsOk s = true ↔ s.cnt = len ∧ s.rem = 0#24 := by
  have hlen : s.cnt.toNat + s.rem.toNat = len.toNat ∧ s.rem = 0#24 ↔ s.cnt = len ∧ s.rem = 0#24 := by
    rw [and_congr_left_iff]
    intro h0
    simp [h0, BitVec.toNat_inj]
  simpa [countsOk, hd, hs, isPollPhase, isFramePhase] using hlen

/-- One byte handed over is one more done and one fewer left (R210). -/
theorem sum_of_pushed {cnt rem : BitVec 24} (hsum : cnt.toNat + rem.toNat = len.toNat) (hrem : rem ≠ 0#24) :
    (cnt + 1#24).toNat + (rem - 1#24).toNat = len.toNat := by
  have := len.isLt
  bv_omega

end ReadArray

/-- The commands of one data byte. -/
def oneByte : Instr → Bool
  | .writeByte _ _ | .readByte _ => true
  | _ => false

theorem countsOk_oneByte {s : State} {i : Instr} (hd : decode (.host s.cw) = .ok i) (hi : oneByte i = true)
    (hs : s.seq ≠ .idle) :
    countsOk s = true ↔ s.cnt = if s.seq = .fCsh ∨ (s.seq = .resp ∧ s.result = .ok) then 1#24 else 0#24 := by
  cases i <;> simp [oneByte] at hi <;> simp [countsOk, hd, hs]

/-- BEGIN and WAIT_READY move no byte (R141, R160). -/
theorem countsOk_noBytes {s : State} {i : Instr} (hd : decode (.host s.cw) = .ok i)
    (hi : isBegin i = true ∨ i = .waitReady) (hs : s.seq ≠ .idle) : countsOk s = true ↔ s.cnt = 0#24 := by
  cases i <;> simp [isBegin] at hi <;> simp [countsOk, hd, hs]

/-- A move between phases before the data keeps the counts (R51). -/
theorem countsOk_move {s t : State} {i : Instr} (hc : countsOk s = true) (hd : decode (.host s.cw) = .ok i)
    (hs : beforeData i s.seq) (ht : beforeData i t.seq) (hcw : t.cw = s.cw := by simp)
    (hcnt : t.cnt = s.cnt := by simp) (hrem : t.rem = s.rem := by simp) (hcur : t.cur = s.cur := by simp)
    (hnb : t.nb = s.nb := by simp) : countsOk t = true := by
  rw [countsOk_beforeData hd hs] at hc
  rw [countsOk_beforeData (by rw [hcw, hd]) ht]
  simpa [StartCounts, AtCursor, hcnt, hrem, hcur, hnb] using hc

/-- The counts of a command that ACCEPT starts (R51, R200, R210). -/
theorem countsOk_dispatchOf {s : State} {i : Instr} (hd : decode (.host s.cw) = .ok i) (hp : polls i = true)
    (hc : s.cnt = 0#24) : countsOk (dispatchOf i s) = true := by
  have hd' : decode (.host (dispatchOf i s).cw) = .ok i := by simpa using hd
  cases i with
  | writeArray addr len => exact (countsOk_writeArray_aNext hd' rfl).2 (atCursor_start hc)
  | readArray => exact (countsOk_beforeData hd' (.inl rfl)).2 ⟨hc, rfl⟩
  | writeByte | readByte | waitReady => exact (countsOk_beforeData hd' (.inl rfl)).2 hc
  | _ => simp [polls] at hp

/-- The counts of a command whose poll ends with BUSY (R133, R231). -/
theorem countsOk_busy {s : State} {i : Instr} (hd : decode (.host s.cw) = .ok i) (h : StartCounts i s) :
    countsOk (raise .busy s) = true := by
  cases i with
  | writeArray => exact (countsOk_writeArray_resp (by simpa using hd) rfl).2 (by simp)
  | readArray => exact countsOk_refused rfl (by simp) h.1
  | _ => exact countsOk_refused rfl (by simp) h

/-- The counts of a command whose poll ends with WIP clear (R51). -/
theorem countsOk_afterPoll {s : State} {i : Instr} (hd : decode (.host s.cw) = .ok i) (hp : polls i = true)
    (h : StartCounts i s) : countsOk (afterPoll i s) = true := by
  cases i with
  | waitReady => exact (countsOk_noBytes (by simpa using hd) (.inr rfl) (by simp [afterPoll])).2 h
  | writeByte | writeArray =>
    exact (countsOk_beforeData (by simpa using hd) (.inr (.inl ⟨rfl, rfl⟩))).2 h
  | readByte | readArray => exact (countsOk_beforeData (by simpa using hd) (.inr (.inr rfl))).2 h
  | _ => simp [polls] at hp

/-- The counts of a command whose frame is sent (R51, R203, R212). -/
theorem countsOk_afterFrame {s : State} {i : Instr} (hd : decode (.host s.cw) = .ok i)
    (hp : (writes i || reads i) = true) (h : StartCounts i s) : countsOk (afterFrame i s) = true := by
  cases i with
  | writeByte | readByte =>
    exact (countsOk_oneByte (by simpa using hd) rfl (by simp [afterFrame, loadData])).2
      (by simpa [afterFrame, loadData, StartCounts] using h)
  | writeArray addr len =>
    obtain ⟨hat, hnb, hrem, hpage⟩ := h
    obtain ⟨h1, h2, h3, h4⟩ := burstLength_spec (cur := s.cur) hrem
    rw [← hnb] at h1 h2 h3 h4
    exact (countsOk_writeArray_burst (by simpa using hd) (.inl rfl)).2 ⟨hat, h1, h2, h3, h4, hpage⟩
  | readArray addr len =>
    obtain ⟨hcnt, hrem⟩ := h
    rcases eq_or_ne s.rem 0#24 with h0 | h0
    · refine (countsOk_readArray_close (by simpa using hd) (by simp [afterFrame, readOrClose, h0])).2 ?_
      exact ⟨hcnt.trans (h0.symm.trans hrem), h0⟩
    · refine (countsOk_readArray_data (by simpa using hd) (.inl (by simp [afterFrame, readOrClose, h0]))).2 ⟨?_, h0⟩
      simp [afterFrame, readOrClose, hcnt, hrem]
  | _ => simp [writes, reads] at hp

/-- The counts of a command whose access is closed (R51, R205). -/
theorem countsOk_afterClose {s : State} {i : Instr} (hd : decode (.host s.cw) = .ok i)
    (hp : (writes i || reads i) = true) (hs : s.seq = .fCsh) (hc : countsOk s = true) :
    countsOk (afterClose i s) = true := by
  cases i with
  | writeByte | readByte =>
    have h1 := (countsOk_oneByte hd rfl (by simp [hs])).1 hc
    exact (countsOk_oneByte (by simpa using hd) rfl (by simp [afterClose])).2 (by simpa [afterClose, hs] using h1)
  | writeArray =>
    exact (countsOk_writeArray_aNext (by simpa using hd) rfl).2 ((countsOk_writeArray_close hd hs).1 hc).1
  | readArray =>
    refine (countsOk_readArray_resp (by simpa using hd) rfl).2 ?_
    simpa [afterClose] using ((countsOk_readArray_close hd hs).1 hc).1
  | _ => simp [writes, reads] at hp

/-- The counts after A_NEXT: all bytes done, a refusal, or the next burst (R203). -/
theorem countsOk_pageAdvance {s : State} {addr : Addr} {len : Len}
    (hd : decode (.host s.cw) = .ok (.writeArray addr len)) (h : AtCursor addr len s) :
    countsOk (pageAdvance s) = true := by
  rcases pageAdvance_cases s with ⟨hrem, hn⟩ | ⟨-, -, hn⟩ | ⟨hrem, hpage, hn⟩ <;> rw [hn]
  · refine (countsOk_writeArray_resp (by simpa using hd) rfl).2 fun _ => BitVec.eq_of_toNat_eq ?_
    simpa [hrem] using h.1
  · exact (countsOk_writeArray_resp (by simpa using hd) rfl).2 (by simp)
  · exact (countsOk_beforeData (i := .writeArray addr len) (by simpa using hd) (.inl rfl)).2 ⟨h, rfl, hrem, hpage⟩

/-- Every step keeps the counts in agreement (R133, R200 to R205, R210). -/
theorem EngineStep.counts {s t : State} (h : EngineStep s t) (ho : phaseOwned s = true) (hc : countsOk s = true) :
    countsOk t = true := by
  cases h with
  | reset | respond => exact countsOk_idle (by simp)
  | take => exact (countsOk_accept (by simp)).2 (by simp)
  | rejectIllegal _ hs | rejectClock _ hs | rejectAgain _ hs | rejectNotInit _ hs | rejectBounds _ hs =>
    exact countsOk_refused (by simp) (by simp) (by simpa using (countsOk_accept hs).1 hc)
  | startBegin _ hs _ _ hd =>
    exact (countsOk_noBytes (by simpa using hd) (.inl rfl) (by simp)).2 (by simpa using (countsOk_accept hs).1 hc)
  | start _ hs i hd hp => exact countsOk_dispatchOf hd hp ((countsOk_accept hs).1 hc)
  | beginCsConfig _ hs _ _ hd | beginCsHigh _ hs _ _ hd | beginSpiConfig _ hs _ _ hd =>
    have h0 := (countsOk_noBytes hd (.inl rfl) (by simp [hs])).1 hc
    exact (countsOk_noBytes (by simpa using hd) (.inl rfl) (by simp)).2 (by simpa using h0)
  | pollStart _ hs i hd | pollOpen _ hs i hd | pollCommand _ hs i hd | pollStatus _ hs i hd =>
    exact countsOk_move hc hd (.inl (by simp [hs, isPollPhase])) (.inl (by simp [isPollPhase]))
  | pollTime _ hs i hd =>
    refine countsOk_move hc hd (.inl (by simp [hs, isPollPhase])) (.inl ?_)
    simp only
    split <;> rfl
  | pollBusy _ hs i hd =>
    have hstart := (countsOk_beforeData hd (.inl (by simp [hs, isPollPhase]))).1 hc
    exact countsOk_busy (by simpa using hd) hstart
  | pollReady _ hs i hd hp =>
    have hstart := (countsOk_beforeData hd (.inl (by simp [hs, isPollPhase]))).1 hc
    exact countsOk_afterPoll (by simpa using hd) hp hstart
  | wrenOpen _ hs i hd hp | wrenCommand _ hs i hd hp =>
    exact countsOk_move hc hd (.inr (.inl ⟨hp, by simp [hs, isWrenPhase]⟩)) (.inr (.inl ⟨hp, rfl⟩))
  | wrenClose _ hs i hd hp =>
    exact countsOk_move hc hd (.inr (.inl ⟨hp, by simp [hs, isWrenPhase]⟩)) (.inr (.inr rfl))
  | frameOpen _ hs i hd | frameFirst _ hs i hd =>
    exact countsOk_move hc hd (.inr (.inr (by simp [hs, isFramePhase]))) (.inr (.inr rfl))
  | frameSecond _ hs i hd hp =>
    have hstart := (countsOk_beforeData hd (.inr (.inr (by simp [hs, isFramePhase])))).1 hc
    exact countsOk_afterFrame (by simpa using hd) hp (by simpa [StartCounts, AtCursor] using hstart)
  | sendByte _ _ _ _ hd | receiveByte _ _ _ hd =>
    exact (countsOk_oneByte (by simpa using hd) rfl (by simp)).2 (by simp)
  | pop _ hs addr len hd =>
    have hburst := (countsOk_writeArray_burst hd (.inl hs)).1 hc
    exact (countsOk_writeArray_burst (by simpa using hd) (.inr rfl)).2 hburst
  | sendArrayByte _ hs addr len hd =>
    obtain ⟨hat, hburst⟩ := (countsOk_writeArray_burst hd (.inr hs)).1 hc
    have hsent := hburst.1.trans hburst.2.1
    by_cases hnb : s.nb - 1#10 = 0#10
    · exact (countsOk_writeArray_close (by simpa using hd) (by simp [hnb])).2
        ⟨hat.sent hsent rfl rfl rfl, hnb, hburst.last hnb⟩
    · exact (countsOk_writeArray_burst (by simpa using hd) (.inl (by simp [hnb]))).2
        ⟨hat.sent hsent rfl rfl rfl, hburst.sent hnb rfl rfl rfl⟩
  | receiveArrayByte _ hs addr len hd =>
    have hdata := (countsOk_readArray_data hd (.inl hs)).1 hc
    exact (countsOk_readArray_data (by simpa using hd) (.inr rfl)).2 (by simpa using hdata)
  | push _ hs addr len hd =>
    obtain ⟨hsum, hrem⟩ := (countsOk_readArray_data hd (.inr hs)).1 hc
    have hpushed := sum_of_pushed hsum hrem
    by_cases h0 : s.rem - 1#24 = 0#24
    · refine (countsOk_readArray_close (by simpa using hd) (by simp [h0])).2 ⟨BitVec.eq_of_toNat_eq ?_, h0⟩
      simpa [h0] using hpushed
    · exact (countsOk_readArray_data (by simpa using hd) (.inl (by simp [h0]))).2 ⟨hpushed, h0⟩
  | close _ hs i hd hp =>
    have hclose : countsOk (csDeassert s) = true := hc
    exact countsOk_afterClose (by simpa using hd) hp (by simpa using hs) hclose
  | pageAdvance _ hs addr len hd => exact countsOk_pageAdvance hd ((countsOk_writeArray_aNext hd hs).1 hc)
  | wrdiOpen _ hs | wrdiCommand _ hs | wrdiClose _ hs =>
    exact absurd (not_bare_of_phaseOwned ho) (by simp [hs, isBare])

/-- Settles O55, clause by clause. -/
theorem engineInvariantKept : Obligations.EngineInvariantKept := by
  rintro s t ⟨hselect, howned, hdriven, hstatus, hcounts, hrdata⟩ h
  have hstep := step_engineStep h
  exact ⟨hstep.chipSelect hselect, hstep.owned howned, hstep.driven hdriven, hstep.status hstatus,
    hstep.counts howned hcounts, hstep.rdata hrdata⟩

end Sys2Proof.Machine
end

section
/-! SUPPORT. Under the three duties no wait is for ever: past IDLE the engine makes its next step (R53, R272). -/

namespace Sys2Proof.Machine

/-- Whether the engine waits is told by its own registers and the environment. -/
theorem SameEngine.waits {s t : State} (h : SameEngine s t) : waits t = waits { s with env := t.env } := by
  conv_lhs => rw [h.eq]
  rfl

theorem SameEngine.phaseOwned {s t : State} (h : SameEngine s t) : phaseOwned t = phaseOwned s := by
  rw [h.eq]
  rfl

/-- Past IDLE only a payload phase or an exchange waits (R27, R28, R53). -/
theorem waits_of_noRequest {s : State} (hi : s.seq ≠ .idle) (hpop : s.seq ≠ .dPop) (hpush : s.seq ≠ .dPush)
    (hr : spiRequest s = none) : waits s = false := by
  unfold waits
  split
  · exact absurd ‹_› hi
  · exact absurd ‹_› hpop
  · exact absurd ‹_› hpush
  · simp [hr]

/-- Some index presents what the engine waits for at index `k` (R27, R53, R270 to R272). -/
theorem PlatformDuties.supplied {r : Nat → State} (h : PlatformDuties r) {k : Nat} (hi : (r k).seq ≠ .idle) :
    ∃ j, k ≤ j ∧ waits { r k with env := (r j).env } = false := by
  by_cases hpop : (r k).seq = .dPop
  · obtain ⟨j, hj, hpin⟩ := h.payloadIn k (by simp [outPorts, hpop])
    exact ⟨j, hj, by simpa [Machine.waits, hpop] using hpin⟩
  by_cases hpush : (r k).seq = .dPush
  · obtain ⟨j, hj, hready⟩ := h.payloadOut k (by simp [outPorts, hpush])
    exact ⟨j, hj, by simpa [Machine.waits, hpush] using hready⟩
  by_cases hspi : (spiRequest (r k)).isSome = true
  · obtain ⟨j, hj, hack⟩ := h.transport k hspi
    have hreq : (spiRequest { r k with env := (r j).env }).isSome = true := hspi
    exact ⟨j, hj, by rw [(waits_of_spiRequest hreq).1, hack]; rfl⟩
  · exact ⟨k, le_rfl, waits_of_noRequest hi hpop hpush (by simpa using hspi)⟩

/-- A run past IDLE comes to the engine's next step, with the engine still as it was. -/
theorem AgentsRun.advances {r : Nat → State} (hrun : AgentsRun r) (hduty : PlatformDuties r) {k : Nat}
    (ho : phaseOwned (r k) = true) (hi : (r k).seq ≠ .idle) :
    ∃ j t, SameEngine (r k) (r j) ∧ EngineStep (r j) t ∧ SameEngine t (r (j + 1)) := by
  have hstops (j : Nat) (h : SameEngine (r k) (r j)) :=
    engineStopsExactlyWhenItWaits (r j) (h.phaseOwned.trans ho) (hrun.rst j)
  obtain ⟨j, -, hsame, hend⟩ := hrun.waitEnds (ends := fun s => waits { r k with env := s.env } = false)
    (fun j _ h hw t ht => by
      rw [← h.waits, Bool.not_eq_false] at hw
      rw [(hstops j h).2 hw] at ht
      cases ht) (hduty.supplied hi)
  rw [← hsame.waits] at hend
  obtain ⟨t, ht⟩ := (hstops j hsame).1 hend
  exact ⟨j, t, hsame, step_engineStep ht, hrun.stepped ht⟩

end Sys2Proof.Machine
end

section
/-! SUPPORT. Under the clock's duty a poll comes to P_CSH (R152, R157, R272). -/

namespace Sys2Proof.Machine

/-- What the rounds of a poll leave alone (R150). -/
structure SamePoll (s t : State) : Prop where
  cw : t.cw = s.cw
  init : t.init = s.init
  rem : t.rem = s.rem
  nb : t.nb = s.nb
  t0 : t.t0 = s.t0
  params : t.params = s.params

theorem SamePoll.trans {s t u : State} (h : SamePoll s t) (g : SamePoll t u) : SamePoll s u :=
  ⟨g.cw.trans h.cw, g.init.trans h.init, g.rem.trans h.rem, g.nb.trans h.nb, g.t0.trans h.t0,
    g.params.trans h.params⟩

theorem SameEngine.samePoll {s t : State} (h : SameEngine s t) : SamePoll s t := by
  rw [h.eq]
  exact ⟨rfl, rfl, rfl, rfl, rfl, rfl⟩

theorem afterStatusRead_samePoll (s : State) : SamePoll s (afterStatusRead s) := by
  constructor <;> simp [afterStatusRead]

theorem afterTimeCheck_samePoll (s : State) : SamePoll s (afterTimeCheck s) := by
  constructor <;> simp [afterTimeCheck]

/-- A later index of the poll of `s`, its last sample still below the timeout (R152). -/
structure StillPolling (s t : State) : Prop where
  same : SamePoll s t
  seq : t.seq = .pSr ∨ t.seq = .pTime
  early : (t.env.now - s.t0).toNat < s.params.busyTimeoutMs.toNat

/-- A later index of the poll of `s`, about to close the transaction (R153). -/
structure PollClosing (s t : State) : Prop where
  same : SamePoll s t
  seq : t.seq = .pCsh

/-- P_TIME goes on with the poll, or closes it (R152). -/
theorem AgentsRun.timeCheck {r : Nat → State} (hrun : AgentsRun r) {n : Nat} {i : Instr}
    (hd : decode (.host (r n).cw) = .ok i) (hi : polls i = true) (hs : (r n).seq = .pTime) :
    StillPolling (r n) (r (n + 1)) ∨ PollClosing (r n) (r (n + 1)) := by
  have hstep : step (r n) = .next (afterTimeCheck (r n)) := by
    rw [step_poll (hrun.rst n) hd hi (by simp [hs, isPollPhase]), poll, hs]
    rfl
  have hnext := hrun.stepped hstep
  have hsame := (afterTimeCheck_samePoll (r n)).trans hnext.samePoll
  have hnow : (r (n + 1)).env.now = nextSample (r n) := by
    rw [hnext.2.1]
    simp [afterTimeCheck]
  cases hc : pollContinues (r n).params (r n).sr (nextSample (r n) - (r n).t0) with
  | true =>
    refine .inl ⟨hsame, .inl (by simp [hnext.seq, afterTimeCheck, hc]), ?_⟩
    rw [hnow]
    exact (pollContinues_eq_true.1 hc).2
  | false => exact .inr ⟨hsame, by simp [hnext.seq, afterTimeCheck, hc]⟩

/-- P_SR waits for the transport, or goes on to P_TIME: no sample is taken (R53, R150). -/
theorem AgentsRun.statusRead {r : Nat → State} (hrun : AgentsRun r) {n : Nat} {i : Instr}
    (hd : decode (.host (r n).cw) = .ok i) (hi : polls i = true) (hs : (r n).seq = .pSr) :
    SamePoll (r n) (r (n + 1)) ∧ ((r (n + 1)).seq = .pSr ∨ (r (n + 1)).seq = .pTime) ∧
    (r (n + 1)).env.now = (r n).env.now := by
  have hstep : step (r n) = x8 Config.dummyByte (r n) fun v s => { s with sr := v, seq := .pTime } := by
    rw [step_poll (hrun.rst n) hd hi (by simp [hs, isPollPhase]), poll, hs]
  cases hack : (r n).env.spiAck with
  | true =>
    have hnext := hrun.stepped (hstep.trans (x8_next.2 ⟨hack, rfl⟩))
    refine ⟨(afterStatusRead_samePoll (r n)).trans hnext.samePoll, .inr hnext.seq, ?_⟩
    rw [hnext.2.1]
    simp
  | false =>
    have hstay := hrun.waited (k := n) (fun t ht => by simp [hstep, x8, hack] at ht)
    exact ⟨hstay.samePoll, .inl (hstay.seq.trans hs), hstay.2.1⟩

/-- A poll that goes on is still polling at the next index, or closes there. -/
theorem AgentsRun.pollsOn {r : Nat → State} (hrun : AgentsRun r) {s : State} {n : Nat} {i : Instr}
    (hd : decode (.host s.cw) = .ok i) (hi : polls i = true) (h : StillPolling s (r n)) :
    StillPolling s (r (n + 1)) ∨ PollClosing s (r (n + 1)) := by
  obtain ⟨hsame, hseq, hearly⟩ := h
  rw [← hsame.cw] at hd
  rcases hseq with hs | hs
  · obtain ⟨hread, hseq, hnow⟩ := hrun.statusRead hd hi hs
    exact .inl ⟨hsame.trans hread, hseq, by rwa [hnow]⟩
  · rcases hrun.timeCheck hd hi hs with ⟨hround, hseq, hlater⟩ | ⟨hround, hseq⟩
    · exact .inl ⟨hsame.trans hround, hseq, by rwa [hsame.t0, hsame.params] at hlater⟩
    · exact .inr ⟨hsame.trans hround, hseq⟩

/-- By induction on the index: a poll polls on for as long as it does not close. -/
theorem AgentsRun.pollsOn_add {r : Nat → State} (hrun : AgentsRun r) {s : State} {m : Nat} {i : Instr}
    (hd : decode (.host s.cw) = .ok i) (hi : polls i = true) (h : StillPolling s (r m)) (d : Nat) :
    StillPolling s (r (m + d)) ∨ ∃ j, PollClosing s (r j) := by
  induction d with
  | zero => exact .inl h
  | succ d ih =>
    rcases ih with hstill | hclosed
    · rcases hrun.pollsOn hd hi hstill with hstill | hclosing
      · exact .inl hstill
      · exact .inr ⟨_, hclosing⟩
    · exact .inr hclosed

/-- A poll at its first check of the time closes: the clock's duty, read from the sample in `t0`, rules out that it is
still polling then (R152, R272). -/
theorem AgentsRun.pollCloses {r : Nat → State} (hrun : AgentsRun r) (hduty : PlatformDuties r) {k : Nat} {i : Instr}
    (hd : decode (.host (r k).cw) = .ok i) (hi : polls i = true) (hs : (r k).seq = .pTime)
    (hnow : (r k).env.now = (r k).t0) : ∃ j, PollClosing (r k) (r j) := by
  rcases hrun.timeCheck hd hi hs with hstill | hclosing
  · have hpos : 0 < (r k).params.busyTimeoutMs.toNat := by have := hstill.early; omega
    obtain ⟨j, hj, hend⟩ := hduty.clock k
    rw [hnow] at hend
    rcases Nat.eq_or_lt_of_le hj with rfl | hlt
    · rcases hend with hout | hlate
      · simp [hs, isPollPhase] at hout
      · rw [hnow] at hlate
        simp at hlate
        omega
    · rcases hrun.pollsOn_add hd hi hstill (j - (k + 1)) with hstill | hclosed
      · rw [show k + 1 + (j - (k + 1)) = j by omega] at hstill
        rcases hend with hout | hlate
        · rcases hstill.seq with h | h <;> simp [h, isPollPhase] at hout
        · have := hstill.early
          omega
      · exact hclosed
  · exact ⟨_, hclosing⟩

end Sys2Proof.Machine
end

section
/-! SUPPORT. A rank that falls with every step of an operation but P_TIME's, and the end of every operation (R53, R272):
O28. -/

namespace Sys2Proof.Machine

/-- How far a phase is from the next byte, the next burst or the end of its command (R51). F_CSH of WRITE_ARRAY comes
before A_NEXT, that of every other command comes last. -/
def phaseRank (i : Instr) : Phase → Nat
  | .fCsh =>
    match i with
    | .writeArray _ _ => 17
    | _ => 1
  | .dTx | .dPush => 2
  | .dPop | .dRx => 3
  | .fW2 => 4
  | .fW1 => 5
  | .fCsl => 6
  | .eCsh => 7
  | .eCmd => 8
  | .eCsl => 9
  | .pCsh => 10
  | .pTime => 11
  | .pSr => 12
  | .pCmd => 13
  | .pCsl => 14
  | .pT0 => 15
  | .aNext => 16
  | .bSpicfg => 1
  | .bCsh => 2
  | .bCscfg => 3
  | _ => 0

/-- The bytes still to move first, then the phase. -/
def rank (i : Instr) (s : State) : Nat :=
  s.rem.toNat * 32 + phaseRank i s.seq

theorem rank_lt_of_phase {i : Instr} {s t : State} (hr : t.rem = s.rem)
    (hp : phaseRank i t.seq < phaseRank i s.seq) : rank i t < rank i s := by
  simp only [rank, hr]
  omega

theorem phaseRank_lt (i : Instr) (p : Phase) : phaseRank i p < 32 := by
  cases p with
  | fCsh => cases i <;> simp [phaseRank]
  | _ => simp [phaseRank]

/-- A byte that moves outweighs every change of phase. -/
theorem rank_lt_of_byte {i : Instr} {s t : State} (hrem : 1 ≤ s.rem.toNat) (hr : t.rem = s.rem - 1#24) :
    rank i t < rank i s := by
  have hless : t.rem.toNat + 1 = s.rem.toNat := by rw [hr]; bv_omega
  have hbound := phaseRank_lt i t.seq
  simp only [rank]
  omega

/-- The bytes an array command owes, as far as they keep `rem` from wrapping (R203, R204, R210). -/
def Owed (i : Instr) (s : State) : Prop :=
  match i with
  | .writeArray _ _ => s.seq ≠ .aNext → s.seq ≠ .fCsh → 1 ≤ s.nb.toNat ∧ s.nb.toNat ≤ s.rem.toNat
  | .readArray _ _ => s.seq = .dRx ∨ s.seq = .dPush → s.rem ≠ 0#24
  | _ => True

/-- An operation under way, before the first check of the time if it polls. -/
structure Working (i : Instr) (s : State) : Prop where
  decoded : decode (.host s.cw) = .ok i
  owned : phaseOwned s = true
  underWay : inOperation s.seq
  sampled : s.seq = .pCsl ∨ s.seq = .pCmd ∨ s.seq = .pSr ∨ s.seq = .pTime → s.env.now = s.t0
  owed : Owed i s

/-- What a step of an operation does but for P_TIME's: it ends the operation, or the operation goes on with a smaller
rank. -/
def Advance (i : Instr) (s t : State) : Prop :=
  t.seq = .resp ∨
  (inOperation t.seq ∧ (t.seq = .pCsl ∨ t.seq = .pCmd ∨ t.seq = .pSr ∨ t.seq = .pTime → t.env.now = t.t0) ∧
    Owed i t ∧ rank i t < rank i s)

/-- A move that transfers no byte keeps what is owed. -/
theorem Owed.move {i : Instr} {s t : State} (h : Owed i s) (hs : s.seq ≠ .aNext ∧ s.seq ≠ .fCsh)
    (ht : t.seq ≠ .dRx ∧ t.seq ≠ .dPush) (hnb : t.nb = s.nb) (hr : t.rem = s.rem) : Owed i t := by
  cases i with
  | writeArray =>
    intro _ _
    rw [hnb, hr]
    exact h hs.1 hs.2
  | readArray => exact fun hseq => (hseq.elim ht.1 ht.2).elim
  | _ => trivial

theorem advance_move {i : Instr} {s t : State} (ho : Owed i s) (hs : s.seq ≠ .aNext ∧ s.seq ≠ .fCsh)
    (ht : inOperation t.seq ∧ t.seq ≠ .dRx ∧ t.seq ≠ .dPush)
    (hnow : t.seq = .pCsl ∨ t.seq = .pCmd ∨ t.seq = .pSr ∨ t.seq = .pTime → t.env.now = t.t0)
    (hp : phaseRank i t.seq < phaseRank i s.seq) (hnb : t.nb = s.nb := by simp) (hr : t.rem = s.rem := by simp) :
    Advance i s t :=
  .inr ⟨ht.1, hnow, ho.move hs ht.2 hnb hr, rank_lt_of_phase hr hp⟩

/-- The end of a frame goes on to the data, or to F_CSH where none is owed (R51, R212). -/
theorem advance_afterFrame {i : Instr} {s w : State} (hs : s.seq = .fW2) (ho : Owed i s)
    (hp : (writes i || reads i) = true) (hnb : w.nb = s.nb) (hr : w.rem = s.rem) : Advance i s (afterFrame i w) := by
  cases i with
  | writeByte | readByte =>
    exact .inr ⟨by simp [afterFrame, loadData, inOperation], by simp [afterFrame, loadData], trivial,
      rank_lt_of_phase hr (by simp [afterFrame, loadData, hs, phaseRank])⟩
  | writeArray =>
    exact advance_move ho (by simp [hs]) (by simp [afterFrame, inOperation]) (by simp [afterFrame])
      (by simp [afterFrame, hs, phaseRank]) hnb hr
  | readArray addr len =>
    rcases afterFrame_cases (.readArray addr len) w with h | h | ⟨_, _, -, -, h⟩ | ⟨_, _, -, hrem, h⟩ | ⟨-, h, -⟩
    · simp at h
    · simp at h
    · rw [h]
      exact .inr ⟨by simp [inOperation], by simp, by simp [Owed], rank_lt_of_phase hr (by simp [hs, phaseRank])⟩
    · rw [h]
      exact .inr ⟨by simp [inOperation], by simp, fun _ => hrem, rank_lt_of_phase hr (by simp [hs, phaseRank])⟩
    · exact absurd rfl (h addr len)
  | _ => simp [writes, reads] at hp

/-- A closed access of WRITE_ARRAY goes on in A_NEXT; every other command ends (R51). -/
theorem advance_afterClose {i : Instr} {s w : State} (hs : s.seq = .fCsh) (hr : w.rem = s.rem) :
    Advance i s (afterClose i w) := by
  cases i with
  | writeArray =>
    exact .inr ⟨by simp [afterClose, inOperation], by simp [afterClose], by simp [Owed, afterClose],
      rank_lt_of_phase hr (by simp [afterClose, hs, phaseRank])⟩
  | _ => exact .inl rfl

/-- A_NEXT ends the command, or starts a burst of bytes that are left (R203). -/
theorem advance_pageAdvance {addr : Addr} {len : Len} {s : State} (hs : s.seq = .aNext) :
    Advance (.writeArray addr len) s (pageAdvance s) := by
  rcases pageAdvance_cases s with ⟨-, h⟩ | ⟨-, -, h⟩ | ⟨hrem, -, h⟩ <;> rw [h]
  · exact .inl rfl
  · exact .inl rfl
  · obtain ⟨hpos, hle, -⟩ := burstLength_spec (cur := s.cur) hrem
    exact .inr ⟨by simp [inOperation], by simp, fun _ _ => ⟨hpos, hle⟩,
      rank_lt_of_phase rfl (by simp [hs, phaseRank])⟩

/-- Every step of an operation but P_TIME's ends it or makes its rank smaller. -/
theorem EngineStep.advance {s t : State} {i : Instr} (h : EngineStep s t) (hr : s.env.rst = 0) (hw : Working i s)
    (hs : s.seq ≠ .pTime) : Advance i s t := by
  obtain ⟨hdec, hown, ⟨hidle, haccept, hresp⟩, hnow, howed⟩ := hw
  have same {i' : Instr} (hd : decode (.host s.cw) = .ok i') : i = i' := Except.ok.inj (hdec.symm.trans hd)
  cases h with
  | reset h => exact absurd hr h
  | take _ h => exact absurd h hidle
  | respond _ h => exact absurd h hresp
  | pollTime _ h => exact absurd h hs
  | rejectIllegal _ h | rejectClock _ h | rejectAgain _ h | startBegin _ h | rejectNotInit _ h | rejectBounds _ h
  | start _ h => exact absurd h haccept
  | beginSpiConfig | pollBusy => exact .inl rfl
  | beginCsConfig _ h | beginCsHigh _ h | wrenOpen _ h | wrenCommand _ h | wrenClose _ h | frameOpen _ h
  | frameFirst _ h | pop _ h =>
    exact advance_move howed (by simp [h]) (by simp [inOperation]) (by simp) (by simp [h, phaseRank])
  | pollStart _ h | pollOpen _ h | pollCommand _ h | pollStatus _ h =>
    exact advance_move howed (by simp [h]) (by simp [inOperation]) (by simp [hnow, h])
      (by simp [h, phaseRank])
  | pollReady _ h i' =>
    rcases afterPoll_seq i' (csDeassert s) with ⟨hq, -⟩ | hq | hq
    · exact .inl hq
    all_goals
      exact advance_move howed (by simp [h]) (by simp [hq, inOperation]) (by simp [hq])
        (by simp [h, hq, phaseRank])
  | frameSecond _ h _ hd hp =>
    obtain rfl := same hd
    exact advance_afterFrame h howed hp (by simp) (by simp)
  | sendByte _ h _ _ hd | receiveByte _ h _ hd =>
    obtain rfl := same hd
    exact .inr ⟨by simp [inOperation], by simp, trivial, rank_lt_of_phase (by simp) (by simp [h, phaseRank])⟩
  | sendArrayByte _ h _ _ hd =>
    obtain rfl := same hd
    obtain ⟨hpos, hle⟩ := howed (by simp [h]) (by simp [h])
    refine .inr ⟨?_, ?_, fun _ hopen => ?_, rank_lt_of_byte (hpos.trans hle) rfl⟩
    · simp only [inOperation]
      split <;> simp
    · simp only
      split <;> simp
    · have hmore : s.nb - 1#10 ≠ 0#10 := fun h0 => hopen (by simp [h0])
      constructor <;> simp only <;> bv_omega
  | receiveArrayByte _ h _ _ hd =>
    obtain rfl := same hd
    exact .inr ⟨by simp [inOperation], by simp, fun _ => by simpa using howed (.inl h),
      rank_lt_of_phase (by simp) (by simp [h, phaseRank])⟩
  | push _ h _ _ hd =>
    obtain rfl := same hd
    have hrem : s.rem ≠ 0#24 := howed (.inr h)
    refine .inr ⟨?_, ?_, fun hopen => ?_, rank_lt_of_byte (by bv_omega) rfl⟩
    · simp only [inOperation]
      split <;> simp
    · simp only
      split <;> simp
    · intro h0
      simp [show s.rem - 1#24 = 0#24 from h0] at hopen
  | close _ h _ hd =>
    obtain rfl := same hd
    exact advance_afterClose h (by simp)
  | pageAdvance _ h _ _ hd =>
    obtain rfl := same hd
    exact advance_pageAdvance h
  | wrdiOpen _ h | wrdiCommand _ h | wrdiClose _ h =>
    exact absurd (not_bare_of_phaseOwned hown) (by simp [h, isBare])

/-- ACCEPT refuses the command or starts its operation (R51, R235). -/
theorem EngineStep.accepted {s t : State} (h : EngineStep s t) (hr : s.env.rst = 0) (hs : s.seq = .accept) :
    t.seq = .resp ∨ ∃ i, Working i t := by
  have hown := h.owned (phaseOwned_outside (.inr (.inl hs)))
  cases h with
  | reset h => exact absurd hr h
  | rejectIllegal | rejectClock | rejectAgain | rejectNotInit | rejectBounds => exact .inl rfl
  | startBegin _ _ csid clkhz hd =>
    exact .inr ⟨.begin csid clkhz, by simpa using hd, hown, by simp [inOperation], by simp, trivial⟩
  | start _ _ i hd =>
    refine .inr ⟨i, by simpa using hd, hown, ?_, ?_, ?_⟩
    · rcases dispatchOf_seq i s with h | h <;> simp [h, inOperation]
    · rcases dispatchOf_seq i s with h | h <;> simp [h]
    · cases i <;> simp [Owed, dispatchOf]
  | _ _ h => simp [hs] at h

theorem Working.sameEngine {i : Instr} {s t : State} (hw : Working i s) (h : SameEngine s t) : Working i t where
  decoded := h.cw ▸ hw.decoded
  owned := h.phaseOwned.trans hw.owned
  underWay := h.seq ▸ hw.underWay
  sampled := by
    rw [h.seq, h.2.1, h.t0]
    exact hw.sampled
  owed := by
    rw [h.eq]
    exact hw.owed

theorem rank_sameEngine {s t : State} (i : Instr) (h : SameEngine s t) : rank i t = rank i s := by
  rw [rank, h.rem, h.seq, rank]

/-- A step that does not end the operation leaves it under way, with a smaller rank. -/
theorem Working.step {i : Instr} {s t : State} (hw : Working i s) (h : EngineStep s t) (hr : s.env.rst = 0)
    (hs : s.seq ≠ .pTime) : t.seq = .resp ∨ (Working i t ∧ rank i t < rank i s) := by
  rcases h.advance hr hw hs with hresp | ⟨hin, hnow, howed, hlt⟩
  · exact .inl hresp
  · have hcw : t.cw = s.cw := (h.command hw.underWay.1).2 hr
    exact .inr ⟨⟨by rw [hcw, hw.decoded], h.owned hw.owned, hin, hnow, howed⟩, hlt⟩

/-- A poll that closes leaves the operation under way, with a smaller rank. -/
theorem Working.pollClosing {i : Instr} {s t : State} (hw : Working i s) (hs : s.seq = .pTime)
    (h : PollClosing s t) : Working i t ∧ rank i t < rank i s := by
  obtain ⟨hsame, hseq⟩ := h
  have hd : decode (.host t.cw) = .ok i := by rw [hsame.cw, hw.decoded]
  obtain ⟨howns, hinit⟩ := (phaseOwned_iff hw.decoded hw.underWay).1 hw.owned
  have hpolls := polls_of_owns howns (by simp [hs, isPollPhase])
  have hin : inOperation t.seq := by simp [hseq, inOperation]
  refine ⟨⟨hd, ?_, hin, by simp [hseq], ?_⟩, rank_lt_of_phase hsame.rem (by simp [hseq, hs, phaseRank])⟩
  · exact (phaseOwned_iff hd hin).2 ⟨owns_pollPhase hpolls (by simp [hseq, isPollPhase]), hsame.init.trans hinit⟩
  · exact hw.owed.move (by simp [hs]) (by simp [hseq]) hsame.nb hsame.rem

/-- By induction on the rank: under the duties an operation under way comes to RESP. -/
theorem AgentsRun.responds {r : Nat → State} (hrun : AgentsRun r) (hduty : PlatformDuties r) {i : Instr} (n : Nat) :
    ∀ k, Working i (r k) → rank i (r k) ≤ n → ∃ j, (r j).seq = .resp := by
  induction n using Nat.strong_induction_on with
  | _ n ih =>
    intro k hw hn
    by_cases hs : (r k).seq = .pTime
    · obtain ⟨howns, -⟩ := (phaseOwned_iff hw.decoded hw.underWay).1 hw.owned
      have hpolls := polls_of_owns howns (by simp [hs, isPollPhase])
      obtain ⟨j, hj⟩ := hrun.pollCloses hduty hw.decoded hpolls hs (hw.sampled (by simp [hs]))
      obtain ⟨hw', hlt⟩ := hw.pollClosing hs hj
      exact ih _ (by omega) j hw' le_rfl
    · obtain ⟨j, t, hsame, hstep, hnext⟩ := hrun.advances hduty hw.owned hw.underWay.1
      rcases (hw.sameEngine hsame).step hstep (hrun.rst j) (by rwa [hsame.seq]) with hresp | ⟨hw', hlt⟩
      · exact ⟨j + 1, hnext.seq.trans hresp⟩
      · rw [rank_sameEngine i hsame, ← rank_sameEngine i hnext] at hlt
        exact ih _ (by omega) (j + 1) (hw'.sameEngine hnext) le_rfl

/-- Settles O28: ACCEPT starts the operation, its rank brings it to RESP, and RESP answers. -/
theorem everyOperationEndsUnderTheDuties : Obligations.EveryOperationEndsUnderTheDuties := by
  intro r hrun hduty h0
  obtain ⟨j, t, hsame, hstep, hnext⟩ :=
    hrun.advances hduty (k := 0) (phaseOwned_outside (.inr (.inl h0))) (by simp [h0])
  have hresp : ∃ k, (r k).seq = .resp := by
    rcases hstep.accepted (hrun.rst j) (hsame.seq.trans h0) with hrefused | ⟨i, hw⟩
    · exact ⟨j + 1, hnext.seq.trans hrefused⟩
    · exact hrun.responds hduty _ (j + 1) (hw.sameEngine hnext) le_rfl
  obtain ⟨k, hk⟩ := hresp
  have hanswer := hrun.stepped (step_resp (hrun.rst k) hk)
  refine ⟨k + 1, (r k).history, hanswer.seq, hanswer.respValid, ?_⟩
  rw [hanswer.history, hanswer.resp]
  simp

end Sys2Proof.Machine
end

section
/-! SUPPORT. A frame on the wire, byte by byte (R76 to R78, R110, R111): O5. -/

namespace Sys2Proof

/-- The low byte of a frame's first word is `a[23:16]` (R76, R110). -/
@[simp] theorem lowByte_frameW1 (cmd : Byte) (a : Addr) : lowByte (frameW1 cmd a) = a.extractLsb' 16 8 := by
  apply BitVec.eq_of_toNat_eq
  rw [lowByte, frameW1, toNat_extract, toNat_append_eq, toNat_extract]
  omega

/-- The high byte of a frame's second word is `a[15:8]` (R76, R110). -/
@[simp] theorem highByte_frameW2 (a : Addr) : highByte (frameW2 a) = a.extractLsb' 8 8 := by
  apply BitVec.eq_of_toNat_eq
  rw [highByte, frameW2, toNat_extract, toNat_extract, toNat_extract]
  omega

/-- The low byte of a frame's second word is `a[7:0]` (R76, R110). -/
@[simp] theorem lowByte_frameW2 (a : Addr) : lowByte (frameW2 a) = a.extractLsb' 0 8 := by
  apply BitVec.eq_of_toNat_eq
  rw [lowByte, frameW2, toNat_extract, toNat_extract, toNat_extract]
  omega

/-- A frame on the wire: the instruction byte, then the address, most significant byte first (R78). -/
theorem wireBytes_frame (cmd : Byte) (a : Addr) :
    wireBytes (.spi32 (frameW1 cmd a) (frameW2 a)) =
      [cmd, a.extractLsb' 16 8, a.extractLsb' 8 8, a.extractLsb' 0 8] := by
  simp [wireBytes, wireBytes16]

/-- `w1[7:3]` is `a[23:19]` (R111). -/
theorem frameW1_high (cmd : Byte) (a : Addr) : (frameW1 cmd a).extractLsb' 3 5 = a.extractLsb' 19 5 := by
  apply BitVec.eq_of_toNat_eq
  rw [frameW1, toNat_extract, toNat_append_eq, toNat_extract, toNat_extract]
  omega

/-- `w1[2:0]` is `a[18:16]` (R111). -/
theorem frameW1_low (cmd : Byte) (a : Addr) : (frameW1 cmd a).extractLsb' 0 3 = a.extractLsb' 16 3 := by
  apply BitVec.eq_of_toNat_eq
  rw [frameW1, toNat_extract, toNat_append_eq, toNat_extract, toNat_extract]
  omega

/-- For an address the device has, the five bits above `a[18:16]` are 0 (R111). -/
theorem frameW1_inDevice (cmd : Byte) {a : Addr} (ha : a.toNat < Config.capacity) :
    frameW1 cmd a = cmd ++ 0#5 ++ a.extractLsb' 16 3 := by
  have hbyte : a.extractLsb' 16 8 = 0#5 ++ a.extractLsb' 16 3 := by
    apply BitVec.eq_of_toNat_eq
    rw [toNat_append_eq, toNat_extract, toNat_extract, BitVec.toNat_ofNat]
    simp only [Config.capacity] at ha
    omega
  apply BitVec.eq_of_toNat_eq
  rw [frameW1, hbyte, toNat_append_eq, toNat_append_eq, toNat_append_eq, toNat_append_eq, BitVec.toNat_ofNat]
  omega

/-- Settles O5: both frames go out alike but for the instruction byte. -/
theorem framesOnTheWire : Obligations.FramesOnTheWire := by
  intro a
  exact ⟨wireBytes_frame Config.opRead a, wireBytes_frame Config.opWrite a,
    frameW1 Config.opRead a, frameW1 Config.opWrite a, rfl, rfl, frameW1_high _ a, frameW1_high _ a,
    frameW1_low _ a, frameW1_low _ a, fun ha => ⟨frameW1_inDevice _ ha, frameW1_inDevice _ ha⟩⟩

end Sys2Proof
end

section
/-! SUPPORT. The device in a command's own moves (R51), and the form of its memory in one step: O58. -/

namespace Sys2Proof.Machine

@[simp] theorem dispatchOf_dev (i : Instr) (s : State) : (dispatchOf i s).dev = s.dev := by cases i <;> rfl

@[simp] theorem afterPoll_dev (i : Instr) (s : State) : (afterPoll i s).dev = s.dev := by cases i <;> rfl

@[simp] theorem afterFrame_dev (i : Instr) (s : State) : (afterFrame i s).dev = s.dev := by cases i <;> rfl

@[simp] theorem afterClose_dev (i : Instr) (s : State) : (afterClose i s).dev = s.dev := by cases i <;> rfl

@[simp] theorem pageAdvance_dev (s : State) : (pageAdvance s).dev = s.dev := by rw [pageAdvance_writes]

/-- Only a reset and an exchange can write the memory, and both keep its form (R87, R262); Cs(0) and Cs(1) leave the
memory as it is. -/
theorem EngineStep.memory {s t : State} (h : EngineStep s t) (hm : MemoryInv s) : MemoryInv t := by
  unfold MemoryInv at hm ⊢
  cases h with
  | reset => exact Device.cutOff_wf _ hm
  | pollCommand | pollStatus | wrenCommand | sendByte | receiveByte | sendArrayByte | receiveArrayByte
  | wrdiCommand => exact deviceByte_mem_wf _ hm
  | frameFirst => exact deviceHalf_mem_wf _ hm
  | frameSecond => simpa using deviceHalf_mem_wf _ hm
  | _ => simpa using hm

/-- Settles O58, by the cases of a step. -/
theorem memoryStaysCanonical : Obligations.MemoryStaysCanonical :=
  fun _ _ hm h => (step_engineStep h).memory hm

end Sys2Proof.Machine
end

section
/-! SUPPORT. Memory by ranges: what a burst writes is what is read back, and nothing else changes (R18, R85). -/

namespace Sys2Proof.Machine

/-- The pairs of a burst name the burst's addresses alone (R79, R90). -/
theorem address_of_mem_cellsFrom {c : Host.Cell} {a : Nat} {vs : List Byte} (h : c ∈ cellsFrom a vs) :
    a ≤ c.1 ∧ c.1 < a + vs.length := by
  induction vs generalizing a with
  | nil => simp [cellsFrom] at h
  | cons v rest ih =>
    rw [cellsFrom, List.mem_cons] at h
    rw [List.length_cons]
    rcases h with rfl | h
    · exact ⟨le_refl a, Nat.lt_add_of_pos_right (by omega)⟩
    · have := ih h
      omega

/-- A burst leaves every address outside it alone. -/
theorem Memory.read_writeBytes_other (m : Memory) {a x : Nat} {vs : List Byte}
    (hx : x < a ∨ a + vs.length ≤ x) : (m.writeBytes a vs).read x = m.read x := by
  refine Memory.read_writeCells_other _ m (fun c hc => ?_)
  have := address_of_mem_cellsFrom hc
  omega

/-- A burst read back is the burst. -/
theorem Memory.readBytes_writeBytes {m : Memory} (a : Nat) (vs : List Byte) (h : m.wf = true) :
    (m.writeBytes a vs).readBytes a vs.length = vs := by
  induction vs generalizing m a with
  | nil => rfl
  | cons v rest ih =>
    have hwrite : m.writeBytes a (v :: rest) = (m.write a v).writeBytes (a + 1) rest := rfl
    have hfirst : ((m.write a v).writeBytes (a + 1) rest).read a = v := by
      rw [Memory.read_writeBytes_other _ (by omega), Memory.read_write_same a v h]
    rw [hwrite, List.length_cons, Memory.readBytes, hfirst, ih (a + 1) (Memory.wf_write a v h)]

end Sys2Proof.Machine
end

section
/-! SUPPORT. A transaction at the reference device, from its instruction byte to its Cs(1) (R86 to R90): O43, O44. -/

namespace Sys2Proof.Machine

/-- The device after the instruction byte of a transaction (R86). -/
def Device.afterInstruction (d : Device) (cmd : Byte) : Device :=
  { d.closed with sel := true, ins := cmd, pos := 1 }

/-- The device after the frame of a READ or WRITE transaction, before its first data byte (R78, R86). -/
def Device.afterAddress (d : Device) (cmd : Byte) (a : Addr) : Device :=
  { d.closed with sel := true, ins := cmd, addr := a, pos := 4 }

/-- The first byte of a transaction is its instruction (R86). -/
theorem Device.receive_instruction {d : Device} {cmd : Byte} (hp : d.pos = 0) (hk : deviceKnows cmd = true) :
    d.receive cmd = (.byte 0x00#8, { d with ins := cmd, pos := 1 }) := by
  rw [Device.receive, if_pos hp, if_pos hk]

/-- Cs(0) and the instruction byte (R86). -/
theorem Device.select_exchangeAll {d : Device} {cmd : Byte} (hm : d.mode = .reference)
    (hk : deviceKnows cmd = true) (rest : List Byte) :
    d.select.exchangeAll (cmd :: rest) =
      (.byte 0x00#8 :: ((d.afterInstruction cmd).exchangeAll rest).1,
        ((d.afterInstruction cmd).exchangeAll rest).2) := by
  rw [Device.select, if_pos hm, Device.exchangeAll, Device.receive_instruction rfl hk]
  rfl

/-- A byte of the address of a READ or WRITE shifts into it (R78, R86). -/
theorem Device.receive_address {d : Device} (hi : d.ins = Config.opRead ∨ d.ins = Config.opWrite)
    (h1 : 1 ≤ d.pos) (h3 : d.pos ≤ 3) (v : Byte) :
    d.receive v = (.byte 0x00#8, { d with addr := d.addr.extractLsb' 0 16 ++ v, pos := d.pos + 1 }) := by
  have hsr : d.ins ≠ Config.opRdsr := by rcases hi with h | h <;> rw [h] <;> decide
  rw [Device.receive, if_neg (by omega), if_neg hsr, if_pos ⟨hi, h3⟩]

/-- A data byte of a WRITE is kept (R90). -/
theorem Device.receive_writeData {d : Device} (hi : d.ins = Config.opWrite) (hp : 4 ≤ d.pos) (v : Byte) :
    d.receive v = (.byte 0x00#8, { d with data := d.data ++ [v], pos := d.pos + 1 }) := by
  rw [Device.receive, if_neg (by omega), if_neg (by rw [hi]; decide), if_neg (by omega),
    if_neg (by rw [hi]; decide), if_pos hi]

/-- A data byte of a READ is answered by its position (R89). -/
theorem Device.receive_readData {d : Device} (hi : d.ins = Config.opRead) (hp : 4 ≤ d.pos) (v : Byte) :
    d.receive v = (d.readAnswer (d.pos - 4), { d with pos := d.pos + 1 }) := by
  rw [Device.receive, if_neg (by omega), if_neg (by rw [hi]; decide), if_neg (by omega), if_pos hi]

/-- A status read inside an RDSR transaction (R87). -/
theorem Device.receive_status {d : Device} (hi : d.ins = Config.opRdsr) (hp : 1 ≤ d.pos) (v : Byte) :
    d.receive v = (.byte d.statusByte, { d.countRead with pos := d.pos + 1 }) := by
  rw [Device.receive, if_neg (by omega), if_pos hi]

/-- Three bytes shifted in, most significant first, replace the address, whatever it was (R78). -/
theorem address_of_bytes (old a : Addr) :
    ((old.extractLsb' 0 16 ++ a.extractLsb' 16 8 : Addr).extractLsb' 0 16 ++
      a.extractLsb' 8 8 : Addr).extractLsb' 0 16 ++ a.extractLsb' 0 8 = a := by
  apply BitVec.eq_of_toNat_eq
  have := a.isLt
  simp only [toNat_append_eq, toNat_extract]
  omega

/-- The three address bytes after the instruction of a READ or WRITE (R78, R86). -/
theorem Device.exchangeAll_address {d : Device} (hi : d.ins = Config.opRead ∨ d.ins = Config.opWrite)
    (hp : d.pos = 1) (a : Addr) (rest : List Byte) :
    d.exchangeAll (a.extractLsb' 16 8 :: a.extractLsb' 8 8 :: a.extractLsb' 0 8 :: rest) =
      (List.replicate 3 (.byte 0x00#8) ++ (Device.exchangeAll { d with addr := a, pos := 4 } rest).1,
        (Device.exchangeAll { d with addr := a, pos := 4 } rest).2) := by
  rw [Device.exchangeAll, Device.receive_address hi (by omega) (by omega),
    Device.exchangeAll, Device.receive_address (by exact hi) (by simp) (by simp [hp]),
    Device.exchangeAll, Device.receive_address (by exact hi) (by simp) (by simp [hp])]
  simp only [address_of_bytes, hp]
  rfl

/-- The frame of a READ or WRITE opens its transaction and gives the device the address (R78, R86). -/
theorem Device.select_exchangeAll_frame {d : Device} {cmd : Byte} (hm : d.mode = .reference)
    (hc : cmd = Config.opRead ∨ cmd = Config.opWrite) (a : Addr) (rest : List Byte) :
    d.select.exchangeAll (wireBytes (.spi32 (frameW1 cmd a) (frameW2 a)) ++ rest) =
      (List.replicate 4 (.byte 0x00#8) ++ ((d.afterAddress cmd a).exchangeAll rest).1,
        ((d.afterAddress cmd a).exchangeAll rest).2) := by
  have hk : deviceKnows cmd = true := by rcases hc with rfl | rfl <;> decide
  rw [wireBytes_frame, List.cons_append, Device.select_exchangeAll hm hk]
  simp only [List.cons_append, List.nil_append]
  rw [Device.exchangeAll_address hc rfl]
  rfl

/-- The data bytes of a WRITE are kept in order (R79, R90). -/
theorem Device.exchangeAll_write {d : Device} (hi : d.ins = Config.opWrite) (hp : 4 ≤ d.pos) (vs : List Byte) :
    (d.exchangeAll vs).2 = { d with data := d.data ++ vs, pos := d.pos + vs.length } := by
  induction vs generalizing d with
  | nil => simp [Device.exchangeAll]
  | cons v rest ih =>
    rw [Device.exchangeAll, Device.receive_writeData hi hp, ih (by exact hi) (Nat.le_succ_of_le hp)]
    simp [Nat.add_assoc, Nat.add_comm]

/-- A READ while no write cycle is in flight answers the array's bytes at ascending addresses (R89). -/
theorem Device.exchangeAll_read {d : Device} (hi : d.ins = Config.opRead) (hp : 4 ≤ d.pos) (hw : d.wip = false)
    (vs : List Byte) (hcap : d.addr.toNat + (d.pos - 4) + vs.length ≤ Config.capacity) :
    (d.exchangeAll vs).1 = (d.mem.readBytes (d.addr.toNat + (d.pos - 4)) vs.length).map .byte := by
  induction vs generalizing d with
  | nil => rfl
  | cons v rest ih =>
    rw [List.length_cons] at hcap
    have hanswer : d.readAnswer (d.pos - 4) = .byte (d.mem.read (d.addr.toNat + (d.pos - 4))) := by
      rw [Device.readAnswer, hw, if_neg (by simp), if_pos (by omega)]
    have hnext : d.addr.toNat + (d.pos + 1 - 4) = d.addr.toNat + (d.pos - 4) + 1 := by omega
    have hrest := ih (d := { d with pos := d.pos + 1 }) hi (Nat.le_succ_of_le hp) hw (by rw [hnext]; omega)
    rw [Device.exchangeAll, Device.receive_readData hi hp, hanswer, hrest, hnext]
    rfl

/-- A status read that leaves reads to go only counts (R87). -/
theorem Device.countRead_counts {d : Device} {n : Nat} (hw : d.wip = true) (hk : d.k = .reads (n + 2)) :
    d.countRead = { d with k := .reads (n + 1) } := by
  simp [Device.countRead, hw, hk, BusyCount.dec]

/-- The last status read of the count ends the write cycle (R87). -/
theorem Device.countRead_completes {d : Device} (hw : d.wip = true) (hk : d.k = .reads 1) :
    d.countRead = { d.complete with k := .reads 0 } := by
  simp [Device.countRead, hw, hk, BusyCount.dec, Device.complete]

/-- As many status reads as the count says end the write cycle (R87). -/
theorem Device.exchangeAll_status {d : Device} {n : Nat} (hi : d.ins = Config.opRdsr) (hp : 1 ≤ d.pos)
    (hw : d.wip = true) (hk : d.k = .reads (n + 1)) (v : Byte) :
    (d.exchangeAll (List.replicate (n + 1) v)).2 = { d.complete with k := .reads 0, pos := d.pos + (n + 1) } := by
  induction n generalizing d with
  | zero =>
    rw [List.replicate_one, Device.exchangeAll, Device.receive_status hi hp, Device.countRead_completes hw hk]
    rfl
  | succ n ih =>
    rw [List.replicate_succ, Device.exchangeAll, Device.receive_status hi hp, Device.countRead_counts hw hk,
      ih (by exact hi) (by simp) (by exact hw) rfl, Nat.add_assoc, Nat.add_comm 1]
    rfl

/-- Cs(1) of a one-byte WREN (R88). -/
theorem Device.deselect_wren {d : Device} (hm : d.mode = .reference) (hs : d.sel = true)
    (hi : d.ins = Config.opWren) (hp : d.pos = 1) : d.deselect = { d.closed with wel := true } := by
  rw [Device.deselect, if_neg (not_not.2 ⟨hm, hs⟩), if_pos ⟨hi, hp⟩]

/-- Cs(1) of a one-byte WRDI (R88). -/
theorem Device.deselect_wrdi {d : Device} (hm : d.mode = .reference) (hs : d.sel = true)
    (hi : d.ins = Config.opWrdi) (hp : d.pos = 1) : d.deselect = { d.closed with wel := false } := by
  have hwren : d.ins ≠ Config.opWren := by rw [hi]; decide
  rw [Device.deselect, if_neg (not_not.2 ⟨hm, hs⟩), if_neg (fun h => hwren h.1), if_pos ⟨hi, hp⟩]

/-- Cs(1) of a WRITE (R90). -/
theorem Device.deselect_write {d : Device} (hm : d.mode = .reference) (hs : d.sel = true)
    (hi : d.ins = Config.opWrite) : d.deselect = d.endWrite := by
  have hwren : d.ins ≠ Config.opWren := by rw [hi]; decide
  have hwrdi : d.ins ≠ Config.opWrdi := by rw [hi]; decide
  rw [Device.deselect, if_neg (not_not.2 ⟨hm, hs⟩), if_neg (fun h => hwren h.1), if_neg (fun h => hwrdi h.1),
    if_pos hi]

/-- Cs(1) of an RDSR or a READ only closes the transaction (R86). -/
theorem Device.deselect_read {d : Device} (hm : d.mode = .reference) (hs : d.sel = true)
    (hi : d.ins = Config.opRdsr ∨ d.ins = Config.opRead) : d.deselect = d.closed := by
  have hwren : d.ins ≠ Config.opWren := by rcases hi with h | h <;> rw [h] <;> decide
  have hwrdi : d.ins ≠ Config.opWrdi := by rcases hi with h | h <;> rw [h] <;> decide
  have hwrite : d.ins ≠ Config.opWrite := by rcases hi with h | h <;> rw [h] <;> decide
  rw [Device.deselect, if_neg (not_not.2 ⟨hm, hs⟩), if_neg (fun h => hwren h.1), if_neg (fun h => hwrdi h.1),
    if_neg hwrite]

/-- WREN sets the write-enable latch (R88). -/
theorem Device.transact_wren {d : Device} (hm : d.mode = .reference) :
    (d.transact [Config.opWren]).2 = { d.closed with wel := true } := by
  rw [Device.transact, Device.select_exchangeAll hm (by decide)]
  exact Device.deselect_wren hm rfl rfl rfl

/-- WRDI clears the write-enable latch (R88). -/
theorem Device.transact_wrdi {d : Device} (hm : d.mode = .reference) :
    (d.transact [Config.opWrdi]).2 = { d.closed with wel := false } := by
  rw [Device.transact, Device.select_exchangeAll hm (by decide)]
  exact Device.deselect_wrdi hm rfl rfl rfl

/-- The end of an enabled WRITE inside one page of the array: its write cycle starts (R90). -/
theorem Device.endWrite_starts {d : Device} (hw : d.wip = false) (hl : d.wel = true) (hd : d.data ≠ [])
    (ha : d.addr.toNat < Config.capacity)
    (hpage : d.addr.toNat % Config.pageSize + d.data.length ≤ Config.pageSize) :
    d.endWrite = { d.closed with pend := cellsFrom d.addr.toNat d.data, wip := true, k := d.w } := by
  have hlen := List.length_pos_iff.2 hd
  simp only [Config.capacity, Config.pageSize] at ha hpage
  have hcap : ¬Config.capacity < d.addr.toNat + d.data.length := by simp only [Config.capacity]; omega
  have hsame : page d.addr.toNat = page (d.addr.toNat + d.data.length - 1) := by
    simp only [page, Config.pageSize]
    omega
  rw [Device.endWrite, if_neg (by simp [hw]), if_neg (by simpa using hd), if_neg (by simp [hl]), if_neg hcap,
    if_neg (not_not.2 hsame)]

/-- An enabled WRITE inside one page of the array starts its write cycle (R90). -/
theorem Device.transact_write {d : Device} (hm : d.mode = .reference) (hw : d.wip = false) (hl : d.wel = true)
    {a : Addr} {vs : List Byte} (hvs : vs ≠ []) (ha : a.toNat < Config.capacity)
    (hpage : a.toNat % Config.pageSize + vs.length ≤ Config.pageSize) :
    (d.transact (wireBytes (encode (.write a)) ++ vs)).2 =
      { d.closed with pend := cellsFrom a.toNat vs, wip := true, k := d.w } := by
  rw [Device.transact, encode, Device.select_exchangeAll_frame hm (.inr rfl),
    Device.exchangeAll_write (d := d.afterAddress Config.opWrite a) rfl (le_refl 4)]
  refine (Device.deselect_write (by exact hm) rfl rfl).trans ?_
  exact Device.endWrite_starts (by exact hw) (by exact hl) (by exact hvs) ha hpage

/-- An RDSR with as many status reads as the count says ends the write cycle in flight (R87). -/
theorem Device.transact_rdsr {d : Device} {n : Nat} (hm : d.mode = .reference) (hw : d.wip = true)
    (hk : d.k = .reads (n + 1)) (v : Byte) :
    (d.transact (Config.opRdsr :: List.replicate (n + 1) v)).2 = { d.closed.complete with k := .reads 0 } := by
  rw [Device.transact, Device.select_exchangeAll hm (by decide),
    Device.exchangeAll_status (d := d.afterInstruction Config.opRdsr) rfl (le_refl 1) hw hk]
  exact Device.deselect_read hm rfl (.inl rfl)

/-- A READ while no write cycle is in flight answers the array's bytes after its frame (R89). -/
theorem Device.transact_read {d : Device} (hm : d.mode = .reference) (hw : d.wip = false) {a : Addr}
    {vs : List Byte} (hcap : a.toNat + vs.length ≤ Config.capacity) :
    (d.transact (wireBytes (encode (.read a)) ++ vs)).1.drop 4 =
      (d.mem.readBytes a.toNat vs.length).map .byte := by
  rw [Device.transact, encode, Device.select_exchangeAll_frame hm (.inl rfl)]
  exact Device.exchangeAll_read (d := d.afterAddress Config.opRead a) rfl (le_refl 4) hw vs hcap

/-- Settles O44, by the two one-byte transactions. -/
theorem writeEnableLatch : Obligations.WriteEnableLatch :=
  fun _ hm => ⟨Device.transact_wren hm, Device.transact_wrdi hm⟩

/-- Settles O43: the WRITE starts the write cycle, the status reads end it, and the READ answers the array. -/
theorem readBackAfterTheWriteCycle : Obligations.ReadBackAfterTheWriteCycle := by
  intro d a vs k hm hwip hwel hw hk hwf hvs ha hpage d1 d2 h1 h2
  obtain ⟨n, rfl⟩ : ∃ n, k = n + 1 := ⟨k - 1, by omega⟩
  have hcap : a.toNat + vs.length ≤ Config.capacity := by simp only [Config.capacity]; omega
  rw [Device.transact_write hm hwip hwel hvs ha hpage] at h1
  rw [h1, Device.transact_rdsr (by exact hm) rfl (by exact hw)] at h2
  subst h1 h2
  refine ⟨rfl, rfl, rfl, rfl, ?_, fun x hx => Memory.read_writeBytes_other d.mem hx⟩
  rw [Device.transact_read (by exact hm) rfl (by simpa using hcap), List.length_replicate]
  exact congrArg _ (Memory.readBytes_writeBytes a.toNat vs hwf)

end Sys2Proof.Machine
end

section
/-! SUPPORT. Encoding and decoding are inverse to each other (R100, R110, R120 to R125): O1, O2, O4, O6. -/

namespace Sys2Proof

/-- The reserved bits between CSID and CLKHZ of a format B word are 0 (R120). -/
@[simp] theorem middleReserved_formatB (op : BitVec 4) (csid : CsId) (clkhz : Hertz) :
    (formatB op csid clkhz).extractLsb' 16 16 = 0#16 := by
  apply BitVec.eq_of_toNat_eq
  have := op.isLt
  have := csid.isLt
  rw [toNat_extract, formatB_toNat, BitVec.toNat_ofNat]
  omega

/-- Above OP a format C word is 0 (R120). -/
@[simp] theorem reserved_formatC (op : BitVec 4) : (formatC op).extractLsb' 4 60 = 0#60 := by
  apply BitVec.eq_of_toNat_eq
  have := op.isLt
  rw [toNat_extract, formatC_toNat, BitVec.toNat_ofNat]
  omega

/-- DATA is the low byte of ARG (R122). -/
theorem fieldData_eq (c : Word64) : fieldData c = (fieldArg c).extractLsb' 0 8 := by
  apply BitVec.eq_of_toNat_eq
  rw [fieldData, fieldArg, toNat_extract, toNat_extract, toNat_extract]
  omega

/-- The bits of ARG above DATA (R121, R122). -/
theorem aboveData_eq (c : Word64) : c.extractLsb' 40 16 = (fieldArg c).extractLsb' 8 16 := by
  apply BitVec.eq_of_toNat_eq
  rw [fieldArg, toNat_extract, toNat_extract, toNat_extract]
  omega

/-- An ARG that carries only DATA (R121, R122). -/
theorem arg_of_data (data : Byte) :
    (0#16 ++ data).extractLsb' 0 8 = data ∧ (0#16 ++ data).extractLsb' 8 16 = 0#16 := by
  have := data.isLt
  constructor <;> apply BitVec.eq_of_toNat_eq <;> rw [toNat_extract, toNat_append_eq] <;>
    simp only [BitVec.toNat_ofNat] <;> omega

/-- An ARG whose bits above DATA are 0 carries only DATA (R121, R122). -/
theorem data_of_arg {c : Word64} (h : c.extractLsb' 40 16 = 0#16) : 0#16 ++ fieldData c = fieldArg c := by
  rw [aboveData_eq] at h
  have hz := congrArg BitVec.toNat h
  have := (fieldArg c).isLt
  rw [toNat_extract, BitVec.toNat_ofNat] at hz
  apply BitVec.eq_of_toNat_eq
  rw [fieldData_eq, toNat_append_eq, toNat_extract, BitVec.toNat_ofNat]
  omega

/-- A command's word decodes to the command (R120 to R125). -/
theorem decodeHost_begin (csid : CsId) (clkhz : Hertz) :
    decodeHost (formatB 0x1#4 csid clkhz) = .ok (.begin csid clkhz) := by
  simp [decodeHost]

theorem decodeHost_writeByte (addr : Addr) (data : Byte) :
    decodeHost (formatA 0x2#4 addr (0#16 ++ data)) = .ok (.writeByte addr data) := by
  obtain ⟨hlow, hhigh⟩ := arg_of_data data
  simp [decodeHost, fieldData_eq, aboveData_eq, hlow, hhigh]

theorem decodeHost_readByte (addr : Addr) : decodeHost (formatA 0x3#4 addr 0#24) = .ok (.readByte addr) := by
  have harg : (formatA 0x3#4 addr 0#24).extractLsb' 32 24 = 0#24 := fieldArg_formatA _ _ _
  simp [decodeHost, harg]

theorem decodeHost_writeArray (addr : Addr) (len : Len) :
    decodeHost (formatA 0x4#4 addr len) = .ok (.writeArray addr len) := by
  simp [decodeHost]

theorem decodeHost_readArray (addr : Addr) (len : Len) :
    decodeHost (formatA 0x5#4 addr len) = .ok (.readArray addr len) := by
  simp [decodeHost]

theorem decodeHost_waitReady : decodeHost (formatC 0x6#4) = .ok .waitReady := by
  simp [decodeHost]

/-- A frame decodes to its instruction with its whole address (R110, R111). -/
theorem decodeSpi32_read (a : Addr) :
    decodeSpi32 (frameW1 Config.opRead a) (frameW2 a) = .ok (.read a) := by
  rw [decodeSpi32, highByte_frameW1, if_pos rfl, frame_address]

theorem decodeSpi32_write (a : Addr) :
    decodeSpi32 (frameW1 Config.opWrite a) (frameW2 a) = .ok (.write a) := by
  rw [decodeSpi32, highByte_frameW1, if_neg (by decide), if_pos rfl, frame_address]

/-- Settles O1, row by row of the opcode table. -/
theorem decodeOfEncodeIsTheInstruction : Obligations.DecodeOfEncodeIsTheInstruction := by
  intro i _
  cases i with
  | begin csid clkhz => exact decodeHost_begin csid clkhz
  | writeByte addr data => exact decodeHost_writeByte addr data
  | readByte addr => exact decodeHost_readByte addr
  | writeArray addr len => exact decodeHost_writeArray addr len
  | readArray addr len => exact decodeHost_readArray addr len
  | waitReady => exact decodeHost_waitReady
  | wren | wrdi | rdsr | wrsr => rfl
  | read a => exact decodeSpi32_read a
  | write a => exact decodeSpi32_write a

/-- A word whose format A reserved bits are 0 is made of its fields (R120). -/
theorem formatA_fields {c : Word64} (hl : lowReservedClear c = true) (hh : highReservedClear c = true) :
    formatA (fieldOp c) (fieldAddr c) (fieldArg c) = c := by
  rw [lowReservedClear, beq_iff_eq] at hl
  rw [highReservedClear, beq_iff_eq] at hh
  replace hl := congrArg BitVec.toNat hl
  replace hh := congrArg BitVec.toNat hh
  have := c.isLt
  rw [toNat_extract, BitVec.toNat_ofNat] at hl hh
  apply BitVec.eq_of_toNat_eq
  rw [formatA_toNat, fieldOp, fieldAddr, fieldArg, toNat_extract, toNat_extract, toNat_extract]
  omega

/-- A word whose format B reserved bits are 0 is made of its fields (R120). -/
theorem formatB_fields {c : Word64} (hl : lowReservedClear c = true) (hm : c.extractLsb' 16 16 = 0#16) :
    formatB (fieldOp c) (fieldCsid c) (fieldClkhz c) = c := by
  rw [lowReservedClear, beq_iff_eq] at hl
  replace hl := congrArg BitVec.toNat hl
  replace hm := congrArg BitVec.toNat hm
  have := c.isLt
  rw [toNat_extract, BitVec.toNat_ofNat] at hl hm
  apply BitVec.eq_of_toNat_eq
  rw [formatB_toNat, fieldOp, fieldCsid, fieldClkhz, toNat_extract, toNat_extract, toNat_extract]
  omega

/-- A word whose format C reserved bits are 0 is its OP (R120). -/
theorem formatC_fields {c : Word64} (hr : c.extractLsb' 4 60 = 0#60) : formatC (fieldOp c) = c := by
  replace hr := congrArg BitVec.toNat hr
  have := c.isLt
  rw [toNat_extract, BitVec.toNat_ofNat] at hr
  apply BitVec.eq_of_toNat_eq
  rw [formatC_toNat, fieldOp, toNat_extract]
  omega

/-- What a legal command word is, reserved bits included (R125). -/
inductive LegalHost (c : Word64) : Instr → Prop where
  | begin (ho : fieldOp c = 0x1#4) (hl : lowReservedClear c = true) (hr : c.extractLsb' 16 16 = 0#16) :
      LegalHost c (.begin (fieldCsid c) (fieldClkhz c))
  | writeByte (ho : fieldOp c = 0x2#4) (hl : lowReservedClear c = true) (hr : c.extractLsb' 40 16 = 0#16)
      (hh : highReservedClear c = true) : LegalHost c (.writeByte (fieldAddr c) (fieldData c))
  | readByte (ho : fieldOp c = 0x3#4) (hl : lowReservedClear c = true) (hr : c.extractLsb' 32 24 = 0#24)
      (hh : highReservedClear c = true) : LegalHost c (.readByte (fieldAddr c))
  | writeArray (ho : fieldOp c = 0x4#4) (hl : lowReservedClear c = true) (hh : highReservedClear c = true) :
      LegalHost c (.writeArray (fieldAddr c) (fieldArg c))
  | readArray (ho : fieldOp c = 0x5#4) (hl : lowReservedClear c = true) (hh : highReservedClear c = true) :
      LegalHost c (.readArray (fieldAddr c) (fieldArg c))
  | waitReady (ho : fieldOp c = 0x6#4) (hr : c.extractLsb' 4 60 = 0#60) : LegalHost c .waitReady

/-- The decoder of the host words answers exactly the legal ones (R125). -/
theorem decode_host_iff {c : Word64} {i : Instr} : decode (.host c) = .ok i ↔ LegalHost c i := by
  constructor
  · intro h
    simp only [decode, decodeHost, Bool.and_eq_true, beq_iff_eq, and_assoc] at h
    split_ifs at h with h1 hr h2 hr h3 hr h4 hr h5 hr h6 hr <;> cases h
    · exact .begin h1 hr.1 hr.2
    · exact .writeByte h2 hr.1 hr.2.1 hr.2.2
    · exact .readByte h3 hr.1 hr.2.1 hr.2.2
    · exact .writeArray h4 hr.1 hr.2
    · exact .readArray h5 hr.1 hr.2
    · exact .waitReady h6 hr
  · intro h
    cases h <;> simp [decode, decodeHost, *]

/-- A legal command word is the encoding of its instruction (R120 to R125). -/
theorem LegalHost.encode_eq {c : Word64} {i : Instr} (h : LegalHost c i) : encode i = .host c := by
  cases h with
  | begin ho hl hr => rw [encode, ← ho, formatB_fields hl hr]
  | writeByte ho hl hr hh => rw [encode, data_of_arg hr, ← ho, formatA_fields hl hh]
  | readByte ho hl hr hh =>
    have harg : fieldArg c = 0#24 := hr
    rw [encode, ← harg, ← ho, formatA_fields hl hh]
  | writeArray ho hl hh | readArray ho hl hh => rw [encode, ← ho, formatA_fields hl hh]
  | waitReady ho hr => rw [encode, ← ho, formatC_fields hr]

/-- A device code that decodes is its instruction's byte (R100). -/
theorem encode_of_decodeSpi8 {c : Byte} {i : Instr} (h : decodeSpi8 c = .ok i) : encode i = .spi8 c := by
  unfold decodeSpi8 at h
  split_ifs at h with h1 h2 h3 h4 <;> cases h <;> simp [encode, *]

/-- A frame is made of its instruction byte and its address (R110). -/
theorem frame_of_words {cmd : Byte} {w1 : Half} (w2 : Half) (h : highByte w1 = cmd) :
    frameW1 cmd (lowByte w1 ++ w2) = w1 ∧ frameW2 (lowByte w1 ++ w2) = w2 := by
  subst h
  have := w1.isLt
  have := w2.isLt
  constructor <;> apply BitVec.eq_of_toNat_eq
  · rw [frameW1, toNat_append_eq, toNat_extract, toNat_append_eq, highByte, lowByte, toNat_extract, toNat_extract]
    omega
  · rw [frameW2, toNat_extract, toNat_append_eq]
    omega

/-- A frame that decodes is its instruction's frame (R110, R111). -/
theorem encode_of_decodeSpi32 {w1 w2 : Half} {i : Instr} (h : decodeSpi32 w1 w2 = .ok i) :
    encode i = .spi32 w1 w2 := by
  unfold decodeSpi32 at h
  split_ifs at h with hread hwrite <;> cases h
  · obtain ⟨h1, h2⟩ := frame_of_words w2 hread
    rw [encode, h1, h2]
  · obtain ⟨h1, h2⟩ := frame_of_words w2 hwrite
    rw [encode, h1, h2]

/-- Settles O2, layer by layer. -/
theorem encodeOfDecodeIsTheWord : Obligations.EncodeOfDecodeIsTheWord := by
  intro c i h
  cases c with
  | host w => exact (decode_host_iff.1 h).encode_eq
  | spi8 c => exact encode_of_decodeSpi8 h
  | spi32 w1 w2 => exact encode_of_decodeSpi32 h

/-- Settles O4, by evaluating the decoder on each word. -/
theorem specExampleWordsDecode : Obligations.SpecExampleWordsDecode := by
  unfold Obligations.SpecExampleWordsDecode
  decide

end Sys2Proof

namespace Sys2Proof.Machine

/-- The assembler table's word of a line is the encoding of the instruction the line names (R129). -/
theorem encode_asmInstr {l : AsmLine} (h : l.wf = true) : encode (asmInstr l) = .host (asmWord l) := by
  cases l with
  | wrb addr data =>
    obtain ⟨-, hdata⟩ : addr < 2 ^ 24 ∧ data < 2 ^ 8 := by simpa [AsmLine.wf] using h
    have harg : 0#16 ++ BitVec.ofNat 8 data = BitVec.ofNat 24 data := by
      apply BitVec.eq_of_toNat_eq
      rw [toNat_append_eq, BitVec.toNat_ofNat, BitVec.toNat_ofNat, BitVec.toNat_ofNat]
      omega
    rw [asmInstr, encode, harg, asmWord]
  | begin | rdb | wra | rda | wait | wrad => rfl

/-- Settles O6: a line's word is its instruction's encoding, which decodes to the instruction. -/
theorem assembledLinesDecode : Obligations.AssembledLinesDecode := by
  intro l h
  rw [← encode_asmInstr h]
  exact decodeOfEncodeIsTheInstruction _ (by cases asmInstr l <;> rfl)

end Sys2Proof.Machine
end

section
/-! SUPPORT. The masks of the opcode table (R125, R126): O3. -/

namespace Sys2Proof

/-- A mask of the low byte and of one field above it cuts those two out (R126). -/
theorem and_fieldMask (x k n : Nat) (hk : 8 ≤ k) :
    x &&& ((2 ^ n - 1) * 2 ^ k + (2 ^ 8 - 1)) = x / 2 ^ k % 2 ^ n * 2 ^ k + x % 2 ^ 8 := by
  have hlow : 2 ^ 8 ≤ 2 ^ k := Nat.pow_le_pow_right (by omega) hk
  have hfield : x &&& (2 ^ n - 1) <<< k = (x / 2 ^ k % 2 ^ n) <<< k := by
    rw [← Nat.and_two_pow_sub_one_eq_mod, ← Nat.shiftRight_eq_div_pow, Nat.shiftLeft_and_distrib]
    apply Nat.eq_of_testBit_eq
    intro i
    simp only [Nat.testBit_and, Nat.testBit_shiftLeft, Nat.testBit_shiftRight]
    by_cases h : k ≤ i <;> simp [h]
  rw [← Nat.shiftLeft_eq, Nat.shiftLeft_add_eq_or_of_lt (by omega), Nat.and_or_distrib_left, hfield,
    Nat.and_two_pow_sub_one_eq_mod, ← Nat.shiftLeft_add_eq_or_of_lt (by omega), Nat.shiftLeft_eq]

theorem extract_eq_zero_iff (c : Word64) (k n : Nat) :
    c.extractLsb' k n = 0#n ↔ c.toNat / 2 ^ k % 2 ^ n = 0 := by
  rw [← BitVec.toNat_inj, toNat_extract, BitVec.toNat_zero]

/-- A field that is cut in two is 0 exactly when both parts are. -/
theorem extract_add_eq_zero (c : Word64) (k m n : Nat) :
    c.extractLsb' k (m + n) = 0#(m + n) ↔ c.extractLsb' k m = 0#m ∧ c.extractLsb' (k + m) n = 0#n := by
  rw [extract_eq_zero_iff, extract_eq_zero_iff, extract_eq_zero_iff, pow_add, pow_add, Nat.mod_mul,
    Nat.div_div_eq_div_mul]
  simp

/-- The low byte of a command word is OP when the reserved bits above OP are 0 (R120). -/
theorem lowByte_eq_op_iff (c : Word64) (op : BitVec 4) :
    c.toNat % 2 ^ 8 = op.toNat ↔ fieldOp c = op ∧ lowReservedClear c = true := by
  have := op.isLt
  rw [lowReservedClear, beq_iff_eq, extract_eq_zero_iff, fieldOp, ← BitVec.toNat_inj, toNat_extract]
  omega

/-- A host row whose mask is the low byte and the reserved field of `n` bits from bit `k` (R126) matches the words of
the row's OP with zeros in both reserved fields (R125). -/
theorem covers_host_iff {op : BitVec 4} {k n mask : Nat} (hmask : mask = (2 ^ n - 1) * 2 ^ k + (2 ^ 8 - 1))
    (hk : 8 ≤ k) (c : Word64) :
    OpcodeRow.covers ⟨64, op.toNat, mask⟩ (.host c) = true ↔
      fieldOp c = op ∧ lowReservedClear c = true ∧ c.extractLsb' k n = 0#n := by
  have hop := op.isLt
  have hlow : 2 ^ 8 ≤ 2 ^ k := Nat.pow_le_pow_right (by omega) hk
  rw [← and_assoc, ← lowByte_eq_op_iff, extract_eq_zero_iff, OpcodeRow.covers, CodeWord.bitsAndValue, hmask,
    and_fieldMask _ _ _ hk]
  simp only [beq_self_eq_true, Bool.true_and, beq_iff_eq]
  constructor
  · intro h
    have hfield : c.toNat / 2 ^ k % 2 ^ n = 0 := by
      by_contra hne
      have := Nat.mul_le_mul_right (2 ^ k) (Nat.one_le_iff_ne_zero.2 hne)
      omega
    rw [hfield] at h
    exact ⟨by omega, hfield⟩
  · rintro ⟨h, hfield⟩
    rw [hfield, h, Nat.zero_mul, Nat.zero_add]

theorem highReservedClear_iff (c : Word64) : highReservedClear c = true ↔ c.extractLsb' 56 8 = 0#8 := beq_iff_eq

theorem lowReservedClear_iff (c : Word64) : lowReservedClear c = true ↔ c.extractLsb' 4 4 = 0#4 := beq_iff_eq

/-- A word matches a row of the table exactly when it is a legal command word (R125, R126). -/
theorem hostWordLegal_iff (c : Word64) : hostWordLegal c = true ↔ ∃ i, LegalHost c i := by
  have hwriteByte := extract_add_eq_zero c 40 16 8
  have hreadByte := extract_add_eq_zero c 32 24 8
  have hwaitReady := extract_add_eq_zero c 4 4 56
  rw [← highReservedClear_iff] at hwriteByte hreadByte
  rw [← lowReservedClear_iff] at hwaitReady
  simp only [hostWordLegal, hostRows, List.any_cons, List.any_nil, Bool.or_eq_true, Bool.or_false]
  refine (or_congr (covers_host_iff (op := 0x1#4) (k := 16) (n := 16) rfl (by omega) c) <|
    or_congr (covers_host_iff (op := 0x2#4) (k := 40) (n := 24) rfl (by omega) c) <|
    or_congr (covers_host_iff (op := 0x3#4) (k := 32) (n := 32) rfl (by omega) c) <|
    or_congr (covers_host_iff (op := 0x4#4) (k := 56) (n := 8) rfl (by omega) c) <|
    or_congr (covers_host_iff (op := 0x5#4) (k := 56) (n := 8) rfl (by omega) c)
      (covers_host_iff (op := 0x6#4) (k := 8) (n := 56) rfl (by omega) c)).trans ⟨?_, ?_⟩
  · rintro (⟨ho, hl, hr⟩ | ⟨ho, hl, hr⟩ | ⟨ho, hl, hr⟩ | ⟨ho, hl, hh⟩ | ⟨ho, hl, hh⟩ | ⟨ho, hl, hr⟩)
    · exact ⟨_, .begin ho hl hr⟩
    · obtain ⟨hr, hh⟩ := hwriteByte.1 hr
      exact ⟨_, .writeByte ho hl hr hh⟩
    · obtain ⟨hr, hh⟩ := hreadByte.1 hr
      exact ⟨_, .readByte ho hl hr hh⟩
    · exact ⟨_, .writeArray ho hl ((highReservedClear_iff c).2 hh)⟩
    · exact ⟨_, .readArray ho hl ((highReservedClear_iff c).2 hh)⟩
    · exact ⟨_, .waitReady ho (hwaitReady.2 ⟨hl, hr⟩)⟩
  · rintro ⟨_, h⟩
    cases h with
    | begin ho hl hr => exact .inl ⟨ho, hl, hr⟩
    | writeByte ho hl hr hh => exact .inr (.inl ⟨ho, hl, hwriteByte.2 ⟨hr, hh⟩⟩)
    | readByte ho hl hr hh => exact .inr (.inr (.inl ⟨ho, hl, hreadByte.2 ⟨hr, hh⟩⟩))
    | writeArray ho hl hh => exact .inr (.inr (.inr (.inl ⟨ho, hl, (highReservedClear_iff c).1 hh⟩)))
    | readArray ho hl hh => exact .inr (.inr (.inr (.inr (.inl ⟨ho, hl, (highReservedClear_iff c).1 hh⟩))))
    | waitReady ho hr =>
      obtain ⟨hl, hr⟩ := hwaitReady.1 hr
      exact .inr (.inr (.inr (.inr (.inr ⟨ho, hl, hr⟩))))

/-- Settles O3: the decoder and the rows both answer the legal words. -/
theorem legalHostWordsAreTheTablesRows : Obligations.LegalHostWordsAreTheTablesRows := by
  intro c
  rw [hostWordLegal_iff]
  exact exists_congr fun _ => decode_host_iff

end Sys2Proof
end

section
/-! SUPPORT. The instruction bytes a step sends (R108, R173): O56. -/

namespace Sys2Proof.Machine

/-- Every byte a phase sends is one of the four codes, but at the phases inside a transaction and the model's own
(R100, R108). -/
theorem sentCode_of_byte {s : State} {v : Byte} (hr : spiRequest s = some (.byte v)) :
    sentCode v = true ∨ isBare s.seq = true ∨ s.seq = .pSr ∨ s.seq = .dTx ∨ s.seq = .dRx := by
  cases hs : s.seq <;> simp [spiRequest, hs] at hr <;> simp [isBare]
  all_goals
    subst hr
    rfl

/-- A frame's first word carries READ or WRITE (R105, R107, R110). -/
theorem sentCode_of_half {s : State} {w : Half} (hr : spiRequest s = some (.half w)) :
    sentCode (highByte w) = true ∨ s.seq = .fW2 := by
  cases hs : s.seq <;> simp [spiRequest, hs] at hr
  · subst hr
    rw [highByte_frameW1, frameCommand]
    split <;> exact .inl rfl
  · exact .inr rfl

/-- A step adds no instruction byte but one of the four codes (R108). -/
theorem HistoryGrowth.codes {s t : State} (h : HistoryGrowth s t) (hc : CodesInv s) {c : Byte}
    (hm : c ∈ instructionBytes t.history) : sentCode c = true := by
  cases h with
  | nothing _ _ ht => exact hc.codes c (ht ▸ hm)
  | byte v m _ hr ht =>
    rw [ht] at hm
    rcases sentCode_of_byte hr with hv | hb | hs
    · rcases mem_instructionBytes_xfer8 hm with rfl | hold
      · exact hv
      · exact hc.codes c hold
    · simp [hc.noBare] at hb
    · rw [instructionBytes_inside (hc.notFirst (by tauto))] at hm
      exact hc.codes c hm
  | half w m _ hr ht =>
    rw [ht] at hm
    rcases sentCode_of_half hr with hv | hs
    · rcases mem_instructionBytes_xfer16 hm with rfl | hold
      · exact hv
      · exact hc.codes c hold
    · rw [instructionBytes_inside (hc.notFirst (by tauto))] at hm
      exact hc.codes c hm
  | other e ht _ _ h8 h16 =>
    rw [ht, instructionBytes_other h8 h16] at hm
    exact hc.codes c hm

/-- No step of R50's phases enters one of the model's own (R173; log 12, log 13). -/
theorem EngineStep.notBare {s t : State} (h : EngineStep s t) (hb : isBare s.seq = false) : isBare t.seq = false := by
  cases h with
  | wrdiOpen _ hs | wrdiCommand _ hs | wrdiClose _ hs => simp [hs, isBare] at hb
  | start _ _ i => rcases dispatchOf_seq i s with h | h <;> rw [h] <;> rfl
  | pollReady _ _ i => rcases afterPoll_seq i (csDeassert s) with ⟨h, -⟩ | h | h <;> rw [h] <;> rfl
  | frameSecond _ _ i => rcases afterFrame_seq i _ with h | h | h | h <;> rw [h] <;> rfl
  | close _ _ i => rcases afterClose_seq i (csDeassert s) with ⟨h, -⟩ | h <;> rw [h] <;> rfl
  | pageAdvance => rcases pageAdvance_seq s with ⟨h, -⟩ | h <;> rw [h] <;> rfl
  | pollTime | sendArrayByte | push => simp only; split <;> rfl
  | _ => rfl

/-- The phases that exchange anything but an instruction byte or a frame's first word come after an event that is no
Cs(0) (R77, R86). -/
theorem EngineStep.notFirst {s t : State} (h : EngineStep s t)
    (ht : t.seq = .pSr ∨ t.seq = .dTx ∨ t.seq = .dRx ∨ t.seq = .fW2) : opensTransaction t.history = false := by
  cases h with
  | start _ _ i => rcases dispatchOf_seq i s with h | h <;> simp [h] at ht
  | pollReady => simp [opensTransaction]
  | close _ _ i => simp [opensTransaction]
  | pageAdvance => rcases pageAdvance_seq s with ⟨h, -⟩ | h <;> simp [h] at ht
  | pollCommand | pollTime | frameFirst | frameSecond | pop | push | sendArrayByte => simp [opensTransaction]
  | _ => simp at ht

/-- Settles O56, clause by clause of the invariant. -/
theorem onlyFourCodesAreSent : Obligations.OnlyFourCodesAreSent := by
  intro s t hc h
  have hstep := step_engineStep h
  exact ⟨fun _ => hstep.historyGrowth.codes hc, hstep.notBare hc.noBare, hstep.notFirst⟩

end Sys2Proof.Machine
end

section
/-! SUPPORT. The response word, and an illegal word's answer (R127, R130, R135, R240): O12, O13, O59. -/

open Sys2Proof.Claims

namespace Sys2Proof.Machine

/-- Settles O12: RESP writes the pending response word, and its fields are those of R130. -/
theorem respStepWritesTheResponse : Obligations.RespStepWritesTheResponse := by
  intro s hr hs
  obtain ⟨hresult, hdone, hsr, hrdata, hreserved⟩ :=
    respWord_fields s.sr s.cnt (rdataOrZero s.result s.rdata) s.result
  exact ⟨respond s, step_resp hr hs, rfl, hresult, hdone, hsr, hrdata, hreserved⟩

/-- A word that matches no row does not decode (R125, R127). -/
theorem decode_error_of_not_legal {c : Word64} (h : hostWordLegal c = false) :
    ∃ e, decode (.host c) = .error e := by
  cases hd : decode (.host c) with
  | error e => exact ⟨e, rfl⟩
  | ok i =>
    have hlegal : hostWordLegal c = true := (hostWordLegal_iff c).2 ⟨i, decode_host_iff.1 hd⟩
    simp [h] at hlegal

/-- A command that ACCEPT rejects is answered by the next step, which is RESP (R235, R240). -/
theorem onlyAnswered_of_rejected {s : State} {r : Result} (hr : s.env.rst = 0) (hne : r ≠ .ok)
    (h : step s = .next (raise r s)) : OnlyAnswered r.code s := by
  have hresp : step (raise r s) = .next (respond (raise r s)) := step_resp hr rfl
  have hword : pendingResp (raise r s) = 0#16 ++ s.sr ++ s.cnt ++ 0#8 ++ 0#4 ++ r.code := by
    simp [pendingResp, respWord, rdataOrZero, hne]
  refine ⟨respond (raise r s), ?_, ?_⟩
  · rw [run_succ_of_step 1 h, run_succ_of_step 0 hresp]
    rfl
  · rw [respond, hword]
    rfl

/-- Settles O13: ACCEPT rejects the word and RESP answers. -/
theorem illegalWordIsOnlyAnswered : Obligations.IllegalWordIsOnlyAnswered := by
  intro s hr hs hlegal
  obtain ⟨e, hd⟩ := decode_error_of_not_legal hlegal
  have hreject : step s = .next (raise .rejIllegal s) := by
    rw [step_illegal hr (by simp [hs]) (by simp [hs, isBare]) hd]
    exact illegalWord_next.2 (.inl ⟨hs, rfl⟩)
  exact onlyAnswered_of_rejected hr (by simp) hreject

@[simp] theorem dispatchOf_resp (i : Instr) (s : State) : (dispatchOf i s).resp = s.resp := by cases i <;> rfl

@[simp] theorem afterPoll_resp (i : Instr) (s : State) : (afterPoll i s).resp = s.resp := by cases i <;> rfl

@[simp] theorem afterFrame_resp (i : Instr) (s : State) : (afterFrame i s).resp = s.resp := by cases i <;> rfl

@[simp] theorem afterClose_resp (i : Instr) (s : State) : (afterClose i s).resp = s.resp := by cases i <;> rfl

@[simp] theorem pageAdvance_resp (s : State) : (pageAdvance s).resp = s.resp := by rw [pageAdvance_writes]

/-- Only a reset and RESP write the response word (R60, R240). -/
theorem EngineStep.responseWord {s t : State} (h : EngineStep s t) :
    (s.env.rst ≠ 0 ∧ t.resp = 0#64) ∨ (s.seq = .resp ∧ t.resp = pendingResp s) ∨ t.resp = s.resp := by
  cases h with
  | reset hr => exact .inl ⟨hr, rfl⟩
  | respond _ hs => exact .inr (.inl ⟨hs, rfl⟩)
  | _ => exact .inr (.inr (by simp))

/-- Settles O59: a reset clears the word, RESP writes it with its reserved bits 0, and nothing else writes it. -/
theorem reservedResponseBitsStayZero : Obligations.ReservedResponseBitsStayZero := by
  unfold Obligations.ReservedResponseBitsStayZero ResponseInv
  refine ⟨by decide, fun s t hs h => ?_⟩
  rcases (step_engineStep h).responseWord with ⟨-, ht⟩ | ⟨-, ht⟩ | ht
  · rw [ht]
    decide
  · obtain ⟨-, -, -, -, hreserved⟩ := respWord_fields s.sr s.cnt (rdataOrZero s.result s.rdata) s.result
    rw [ht]
    exact hreserved
  · rw [ht]
    exact hs

end Sys2Proof.Machine
end

section
/-! SUPPORT. The device instructions, each at its phases, and inside the commands that send them (R50, R100 to R107):
O8, O20, O26, O27, O29, O30. -/

open Sys2Proof.Claims

namespace Sys2Proof.Machine

/-- An acknowledged 8-bit exchange (R35): the event comes on top of the history before it. -/
theorem x8_of_ack {v : Byte} {s : State} {k : Byte → State → State} (ha : s.env.spiAck = true) :
    x8 v s k = .next (k (deviceByte v s).1
      { (deviceByte v s).2 with history := .xfer8 v (deviceByte v s).1 :: s.history }) :=
  x8_next.2 ⟨ha, by rw [State.emit, deviceByte_history]⟩

/-- An acknowledged 16-bit exchange (R35): the event comes on top of the history before it. -/
theorem x16_of_ack {w : Half} {s : State} {k : Half → State → State} (ha : s.env.spiAck = true) :
    x16 w s k = .next (k (deviceHalf w s).1
      { (deviceHalf w s).2 with history := .xfer16 w (deviceHalf w s).1 :: s.history }) :=
  x16_next.2 ⟨ha, by rw [State.emit, deviceHalf_history]⟩

/-- The poll's condition in its own words (R152). -/
theorem pollContinues_iff {p : Params} {sr : Byte} {el : Millis} :
    pollContinues p sr el = true ↔ sr.getLsbD 0 = true ∧ el.toNat < p.busyTimeoutMs.toNat := by
  simp [pollContinues, wipSet]

/-- What POLL() does at each of its phases (R150). -/
theorem pollPhases_of_poll {i : Instr} {ready : State → State} {s : State}
    (h : isPollPhase s.seq = true → exec i s = poll ready s) : PollPhases i ready s := by
  refine ⟨fun hs => ?_, fun hs => ?_, fun hs ha => ?_, fun hs ha => ?_, fun hs => ?_, fun hs hw => ?_,
    fun hs hw => ?_⟩
  all_goals rw [h (by simp [hs, isPollPhase])]
  · exact poll_next.2 (.inl ⟨hs, rfl⟩)
  · exact poll_next.2 (.inr (.inl ⟨hs, rfl⟩))
  · rw [poll, hs]
    exact x8_of_ack ha
  · rw [poll, hs]
    exact x8_of_ack ha
  · simp only [poll, hs, pollContinues_iff]
  · exact poll_next.2 (.inr (.inr (.inr (.inr (.inr (.inl ⟨hs, hw, rfl⟩))))))
  · exact poll_next.2 (.inr (.inr (.inr (.inr (.inr (.inr ⟨hs, hw, rfl⟩))))))

/-- What WREN_SEQ() does at each of its phases (R170). -/
theorem wrenPhases_of_wrenSeq {i : Instr} {s : State} (h : isWrenPhase s.seq = true → exec i s = wrenSeq s) :
    WrenPhases i s := by
  refine ⟨fun hs => ?_, fun hs ha => ?_, fun hs => ?_⟩
  all_goals rw [h (by simp [hs, isWrenPhase])]
  · exact wrenSeq_next.2 (.inl ⟨hs, rfl⟩)
  · rw [wrenSeq, hs]
    exact x8_of_ack ha
  · exact wrenSeq_next.2 (.inr (.inr ⟨hs, rfl⟩))

/-- What CS_ASSERT() and FRAME(cmd, a) do at each of their phases (R110). -/
theorem framePhases_of_frame {i : Instr} {cmd : Byte} {a : Addr} {after : State → State} {s : State}
    (h : isFramePhase s.seq = true → exec i s = frame cmd a after s) : FramePhases i cmd a after s := by
  refine ⟨fun hs => ?_, fun hs ha => ?_, fun hs ha => ?_⟩
  all_goals rw [h (by simp [hs, isFramePhase])]
  · exact frame_next.2 (.inl ⟨hs, rfl⟩)
  · rw [frame, hs]
    exact x16_of_ack ha
  · rw [frame, hs]
    exact x16_of_ack ha

/-- RDSR is the poll of the command whose OP is latched (R103, R150, R158). -/
theorem exec_rdsr {s : State} (hop : isPollingOp s.op = true) : exec .rdsr s = poll (readyNext s.op) s :=
  if_pos hop

/-- Settles O20: RDSR is POLL() with the successor of R51. -/
theorem rdsrPerformsThePoll : Obligations.RdsrPerformsThePoll := by
  intro s
  refine ⟨fun hop => ?_, fun hop => ?_, fun hop => ?_⟩
  · refine pollPhases_of_poll fun _ => ?_
    rw [exec_rdsr (by simp [hop, isPollingOp]), hop]
    rfl
  all_goals
    refine pollPhases_of_poll fun _ => ?_
    rcases hop with hop | hop <;>
      · rw [exec_rdsr (by simp [hop, isPollingOp]), hop]
        rfl

/-- Settles O26: WREN is WREN_SEQ(). -/
theorem wrenTransaction : Obligations.WrenTransaction :=
  fun _ => wrenPhases_of_wrenSeq fun _ => rfl

/-- Settles O27: WRDI is WRDI_SEQ(), and WRSR has no meaning. -/
theorem wrdiTransactionAndWrsrRefusal : Obligations.WrdiTransactionAndWrsrRefusal := by
  intro s
  refine ⟨fun hs => wrdiSeq_next.2 (.inl ⟨hs, rfl⟩), fun hs ha => ?_,
    fun hs => wrdiSeq_next.2 (.inr (.inr ⟨hs, rfl⟩)), rfl⟩
  rw [exec, execWrdi, wrdiSeq, hs]
  exact x8_of_ack ha

/-- READ inside READ_BYTE (R105, R185). -/
theorem execRead_readByte {s : State} (a : Addr) (hop : s.op = 0x3#4) :
    (isFramePhase s.seq = true → exec (.read a) s = frame Config.opRead a (fun u => u.goto .dRx) s) ∧
    (s.seq = .dRx → exec (.read a) s = receiveByte s) ∧
    (s.seq = .fCsh → exec (.read a) s = .next (finish (csDeassert s))) := by
  refine ⟨fun hs => ?_, fun hs => ?_, fun hs => ?_⟩
  · rcases isFramePhase_iff.1 hs with hs | hs | hs <;> simp [exec, execRead, hop, hs]
  all_goals simp [exec, execRead, hop, hs]

/-- READ inside READ_ARRAY (R105, R210). -/
theorem execRead_readArray {s : State} (a : Addr) (hop : s.op = 0x5#4) :
    (isFramePhase s.seq = true → exec (.read a) s = frame Config.opRead a readOrClose s) ∧
    (s.seq = .dRx → exec (.read a) s = receiveArrayByte s) ∧
    (s.seq = .dPush → exec (.read a) s = pushReceived s) ∧
    (s.seq = .fCsh → exec (.read a) s = .next (finish (csDeassert s))) := by
  refine ⟨fun hs => ?_, fun hs => ?_, fun hs => ?_, fun hs => ?_⟩
  · rcases isFramePhase_iff.1 hs with hs | hs | hs <;> simp [exec, execRead, hop, hs]
  all_goals simp [exec, execRead, hop, hs]

/-- WRITE inside WRITE_BYTE (R107, R180). -/
theorem execWrite_writeByte {s : State} (a : Addr) (hop : s.op = 0x2#4) :
    (isFramePhase s.seq = true → exec (.write a) s = frame Config.opWrite a (loadData (fieldData s.cw)) s) ∧
    (s.seq = .dTx → exec (.write a) s = sendByte s) ∧
    (s.seq = .fCsh → exec (.write a) s = .next (finish (csDeassert s))) := by
  refine ⟨fun hs => ?_, fun hs => ?_, fun hs => ?_⟩
  · rcases isFramePhase_iff.1 hs with hs | hs | hs <;> simp [exec, execWrite, hop, hs]
  all_goals simp [exec, execWrite, hop, hs]

/-- WRITE inside WRITE_ARRAY (R107, R200). -/
theorem execWrite_writeArray {s : State} (a : Addr) (hop : s.op = 0x4#4) :
    (isFramePhase s.seq = true → exec (.write a) s = frame Config.opWrite a (fun u => u.goto .dPop) s) ∧
    (s.seq = .dPop → exec (.write a) s = popToSend s) ∧
    (s.seq = .dTx → exec (.write a) s = sendArrayByte s) ∧
    (s.seq = .fCsh → exec (.write a) s = .next ((csDeassert s).goto .aNext)) := by
  refine ⟨fun hs => ?_, fun hs => ?_, fun hs => ?_, fun hs => ?_⟩
  · rcases isFramePhase_iff.1 hs with hs | hs | hs <;> simp [exec, execWrite, hop, hs]
  all_goals simp [exec, execWrite, hop, hs]

/-- Settles O29: the frame, the data phases and the close of READ in both commands that send it. -/
theorem readTransaction : Obligations.ReadTransaction := by
  refine fun a s => ⟨fun hop => ?_, fun hop => ?_⟩
  · obtain ⟨hframe, hreceive, hclose⟩ := execRead_readByte a hop
    refine ⟨framePhases_of_frame hframe, fun hs ha => ?_, hclose⟩
    rw [hreceive hs]
    exact x8_of_ack ha
  · obtain ⟨hframe, hreceive, hpush, hclose⟩ := execRead_readArray a hop
    refine ⟨framePhases_of_frame hframe, fun hs ha => ?_, fun hs ha => ?_, hclose⟩
    · rw [hreceive hs]
      exact x8_of_ack ha
    · rw [hpush hs]
      exact pushByte_next.2 ⟨ha, rfl⟩

/-- Settles O30: the frame, the data phases and the close of WRITE in both commands that send it. -/
theorem writeTransaction : Obligations.WriteTransaction := by
  refine fun a s => ⟨fun hop => ?_, fun hop => ?_⟩
  · obtain ⟨hframe, hsend, hclose⟩ := execWrite_writeByte a hop
    refine ⟨framePhases_of_frame hframe, fun hs ha => ?_, hclose⟩
    rw [hsend hs]
    exact x8_of_ack ha
  · obtain ⟨hframe, hpop, hsend, hclose⟩ := execWrite_writeArray a hop
    refine ⟨framePhases_of_frame hframe, fun v rest hs hpin => ?_, fun hs ha => ?_, hclose⟩
    · rw [hpop hs]
      exact popByte_next.2 ⟨v, rest, hpin, rfl⟩
    · rw [hsend hs]
      exact x8_of_ack ha

/-- A command's poll is RDSR's (R103, R150, R158). -/
theorem exec_eq_rdsr {s : State} {i : Instr} (hd : decode (.host s.cw) = .ok i) (hi : polls i = true)
    (hs : isPollPhase s.seq = true) : exec i s = exec .rdsr s := by
  have hready : afterPoll i = readyNext s.op := by
    rcases decode_host_cases hd with ⟨ho, rfl⟩ | ⟨ho, rfl⟩ | ⟨ho, rfl⟩ | ⟨ho, rfl⟩ | ⟨ho, rfl⟩ | ⟨ho, rfl⟩
    · simp [polls] at hi
    all_goals
      rw [State.op, ho]
      rfl
  rw [exec_pollPhase hi hs, exec_rdsr (polls_eq_isPollingOp hd ▸ hi), hready]

/-- A writing command's write enable is WREN's (R101, R170). -/
theorem exec_eq_wren {s : State} {i : Instr} (hi : writes i = true) (hs : isWrenPhase s.seq = true) :
    exec i s = exec .wren s :=
  exec_wrenPhase hi hs

/-- WRITE_BYTE's access is WRITE's (R107, R180). -/
theorem exec_writeByte_eq_write {s : State} {a : Addr} {v : Byte}
    (hd : decode (.host s.cw) = .ok (.writeByte a v))
    (hs : isFramePhase s.seq = true ∨ s.seq = .dTx ∨ s.seq = .fCsh) :
    exec (.writeByte a v) s = exec (.write a) s := by
  obtain ⟨hop, hv⟩ : s.op = 0x2#4 ∧ v = fieldData s.cw := by
    cases decode_host_iff.1 hd with
    | writeByte ho => exact ⟨ho, rfl⟩
  obtain ⟨hframe, hsend, hclose⟩ := execWrite_writeByte a hop
  rcases hs with hs | hs | hs
  · rw [hframe hs, exec_framePhase rfl hs, hv]
    rfl
  · rw [hsend hs, exec, execWriteByte, hs]
  · rw [hclose hs, exec, execWriteByte, hs]

/-- READ_BYTE's access is READ's (R105, R185). -/
theorem exec_readByte_eq_read {s : State} {a : Addr} (hd : decode (.host s.cw) = .ok (.readByte a))
    (hs : isFramePhase s.seq = true ∨ s.seq = .dRx ∨ s.seq = .fCsh) :
    exec (.readByte a) s = exec (.read a) s := by
  have hop : s.op = 0x3#4 := by
    cases decode_host_iff.1 hd with
    | readByte ho => exact ho
  obtain ⟨hframe, hreceive, hclose⟩ := execRead_readByte a hop
  rcases hs with hs | hs | hs
  · rw [hframe hs, exec_framePhase rfl hs]
    rfl
  · rw [hreceive hs, exec, execReadByte, hs]
  · rw [hclose hs, exec, execReadByte, hs]

/-- WRITE_ARRAY's access is WRITE's, at the cursor (R107, R200). -/
theorem exec_writeArray_eq_write {s : State} {a : Addr} {n : Len}
    (hd : decode (.host s.cw) = .ok (.writeArray a n))
    (hs : isFramePhase s.seq = true ∨ s.seq = .dPop ∨ s.seq = .dTx ∨ s.seq = .fCsh) :
    exec (.writeArray a n) s = exec (.write s.curAddr) s := by
  have hop : s.op = 0x4#4 := by
    cases decode_host_iff.1 hd with
    | writeArray ho => exact ho
  obtain ⟨hframe, hpop, hsend, hclose⟩ := execWrite_writeArray s.curAddr hop
  rcases hs with hs | hs | hs | hs
  · rw [hframe hs, exec_framePhase rfl hs]
    rfl
  · rw [hpop hs, exec, execWriteArray, hs]
  · rw [hsend hs, exec, execWriteArray, hs]
  · rw [hclose hs, exec, execWriteArray, hs]

/-- READ_ARRAY's access is READ's (R105, R210). -/
theorem exec_readArray_eq_read {s : State} {a : Addr} {n : Len}
    (hd : decode (.host s.cw) = .ok (.readArray a n))
    (hs : isFramePhase s.seq = true ∨ s.seq = .dRx ∨ s.seq = .dPush ∨ s.seq = .fCsh) :
    exec (.readArray a n) s = exec (.read a) s := by
  have hop : s.op = 0x5#4 := by
    cases decode_host_iff.1 hd with
    | readArray ho => exact ho
  obtain ⟨hframe, hreceive, hpush, hclose⟩ := execRead_readArray a hop
  rcases hs with hs | hs | hs | hs
  · rw [hframe hs, exec_framePhase rfl hs]
    rfl
  · rw [hreceive hs, exec, execReadArray, hs]
  · rw [hpush hs, exec, execReadArray, hs]
  · rw [hclose hs, exec, execReadArray, hs]

/-- Settles O8, transaction by transaction. -/
theorem hostCommandsSendTheDeviceInstructions : Obligations.HostCommandsSendTheDeviceInstructions := by
  intro s a v n
  exact ⟨fun hd hs => exec_eq_rdsr hd rfl hs,
    fun hd => ⟨exec_eq_rdsr hd rfl, exec_eq_wren rfl, exec_writeByte_eq_write hd⟩,
    fun hd => ⟨exec_eq_rdsr hd rfl, exec_readByte_eq_read hd⟩,
    fun hd => ⟨exec_eq_rdsr hd rfl, exec_eq_wren rfl, exec_writeArray_eq_write hd⟩,
    fun hd => ⟨exec_eq_rdsr hd rfl, exec_readArray_eq_read hd⟩⟩

end Sys2Proof.Machine
end

section
/-! SUPPORT. What the device instructions WREN, WRDI, READ and WRITE leave unchanged (R101, R102, R105, R107, R170):
O49. -/

open Sys2Proof.Claims

namespace Sys2Proof.Machine

theorem sameDeviceBytes_of_mem {s t : State} (h : t.dev.mem = s.dev.mem) : SameDeviceBytes s t :=
  ⟨fun _ _ => by rw [h], fun _ _ => by rw [h]⟩

theorem sameDeviceBytes_of_later {s t : State} (h : s.dev.Later t.dev) : SameDeviceBytes s t := by
  obtain ⟨hbytes, hidle, -⟩ := h
  exact ⟨hbytes, fun hw a => by rw [(hidle hw).1]⟩

/-- What a step of a device access keeps (R101 to R107): the configuration, the poll's registers, the response, and
the device's bytes outside its write cycle in flight. -/
structure AccessKeeps (s t : State) : Prop where
  configuration : SameConfiguration s t
  pollRegisters : SamePollRegisters s t
  resp : t.resp = s.resp
  respValid : t.respValid = s.respValid
  bytes : SameDeviceBytes s t

theorem accessKeeps_csAssert (s : State) : AccessKeeps s (csAssert s) where
  configuration := by simp [SameConfiguration]
  pollRegisters := by simp [SamePollRegisters]
  resp := rfl
  respValid := rfl
  bytes := sameDeviceBytes_of_mem (by simp)

theorem accessKeeps_csDeassert (s : State) : AccessKeeps s (csDeassert s) where
  configuration := by simp [SameConfiguration]
  pollRegisters := by simp [SamePollRegisters]
  resp := rfl
  respValid := rfl
  bytes := sameDeviceBytes_of_mem (by simp)

theorem accessKeeps_byte (v : Byte) (e : Event) (s : State) : AccessKeeps s ((deviceByte v s).2.emit e) where
  configuration := by simp [SameConfiguration]
  pollRegisters := by simp [SamePollRegisters]
  resp := by simp
  respValid := by simp
  bytes := sameDeviceBytes_of_later (deviceByte_later v s)

theorem accessKeeps_half (w : Half) (e : Event) (s : State) : AccessKeeps s ((deviceHalf w s).2.emit e) where
  configuration := by simp [SameConfiguration]
  pollRegisters := by simp [SamePollRegisters]
  resp := by simp
  respValid := by simp
  bytes := sameDeviceBytes_of_later (deviceHalf_later w s)

theorem accessKeeps_push (v : Byte) (s : State) : AccessKeeps s (s.emit (.push v)) where
  configuration := by simp [SameConfiguration]
  pollRegisters := by simp [SamePollRegisters]
  resp := rfl
  respValid := rfl
  bytes := sameDeviceBytes_of_mem rfl

theorem accessKeeps_pop (v : Byte) (rest : List Byte) (s : State) :
    AccessKeeps s ({ s with env := { s.env with pin := rest } }.emit (.pop v)) where
  configuration := by simp [SameConfiguration]
  pollRegisters := by simp [SamePollRegisters]
  resp := rfl
  respValid := rfl
  bytes := sameDeviceBytes_of_mem rfl

/-- The register updates after a primitive (R51, R185, R200, R210) touch none of it. -/
theorem AccessKeeps.move {s u t : State} (h : AccessKeeps s u)
    (ht : t = { u with
      cur := t.cur, rem := t.rem, nb := t.nb, cnt := t.cnt, rdata := t.rdata, b := t.b, seq := t.seq,
      result := t.result }) : AccessKeeps s t := by
  rw [ht]
  exact ⟨h.configuration, h.pollRegisters, h.resp, h.respValid, h.bytes⟩

/-- The data registers and the payload stream (R27, R40, R51). -/
def SameData (s t : State) : Prop :=
  SameArrayRegisters s t ∧ t.cnt = s.cnt ∧ t.rdata = s.rdata ∧ t.b = s.b ∧ t.env.pin = s.env.pin

/-- WREN_SEQ() moves no data (R101, R170). -/
theorem wrenSeq_keeps {s t : State} (h : wrenSeq s = .next t) : AccessKeeps s t ∧ SameData s t := by
  rcases wrenSeq_next.1 h with ⟨-, rfl⟩ | ⟨-, -, rfl⟩ | ⟨-, rfl⟩
  · exact ⟨(accessKeeps_csAssert s).move rfl, by simp [SameData, SameArrayRegisters]⟩
  · exact ⟨(accessKeeps_byte _ _ s).move rfl, by simp [SameData, SameArrayRegisters]⟩
  · exact ⟨(accessKeeps_csDeassert s).move rfl, by simp [SameData, SameArrayRegisters]⟩

/-- WRDI_SEQ() moves no data (R102, R172). -/
theorem wrdiSeq_keeps {s t : State} (h : wrdiSeq s = .next t) : AccessKeeps s t ∧ SameData s t := by
  rcases wrdiSeq_next.1 h with ⟨-, rfl⟩ | ⟨-, -, rfl⟩ | ⟨-, rfl⟩
  · exact ⟨(accessKeeps_csAssert s).move rfl, by simp [SameData, SameArrayRegisters]⟩
  · exact ⟨(accessKeeps_byte _ _ s).move rfl, by simp [SameData, SameArrayRegisters]⟩
  · exact ⟨(accessKeeps_csDeassert s).move rfl, by simp [SameData, SameArrayRegisters]⟩

/-- The registers that a frame leaves to the data phases (R110, R112). -/
def SameDuringFrame (s t : State) : Prop :=
  t.cur = s.cur ∧ t.nb = s.nb ∧ t.rdata = s.rdata ∧ t.env.pin = s.env.pin

/-- A frame whose successor writes at most `b` and the phase (R51, R110). -/
theorem frame_keeps {cmd : Byte} {a : Addr} {after : State → State} {s t : State}
    (hafter : ∀ u, after u = { u with b := (after u).b, seq := (after u).seq })
    (h : frame cmd a after s = .next t) : AccessKeeps s t ∧ SameDuringFrame s t := by
  rcases frame_next.1 h with ⟨-, rfl⟩ | ⟨-, -, rfl⟩ | ⟨-, -, rfl⟩
  · exact ⟨(accessKeeps_csAssert s).move rfl, by simp [SameDuringFrame]⟩
  · exact ⟨(accessKeeps_half _ _ s).move rfl, by simp [SameDuringFrame]⟩
  · rw [hafter]
    exact ⟨(accessKeeps_half _ _ s).move rfl, by simp [SameDuringFrame]⟩

/-- What a step of READ can be (R105). -/
theorem execRead_next {a : Addr} {s t : State} (h : execRead a s = .next t) :
    frame Config.opRead a (fun u => u.goto .dRx) s = .next t ∨ frame Config.opRead a readOrClose s = .next t ∨
    receiveByte s = .next t ∨ receiveArrayByte s = .next t ∨ pushReceived s = .next t ∨
    t = finish (csDeassert s) := by
  unfold execRead at h
  split_ifs at h
  all_goals cases hs : s.seq <;> simp only [hs, next_eq_iff, reduceCtorEq] at h <;> simp [h]

/-- READ leaves the cursor, the burst and the payload stream alone (R105, R185, R210). -/
theorem execRead_keeps {a : Addr} {s t : State} (h : execRead a s = .next t) :
    AccessKeeps s t ∧ t.cur = s.cur ∧ t.nb = s.nb ∧ t.env.pin = s.env.pin := by
  rcases execRead_next h with hf | hf | hx | hx | hp | rfl
  · obtain ⟨hk, hcur, hnb, -, hpin⟩ := frame_keeps (fun _ => rfl) hf
    exact ⟨hk, hcur, hnb, hpin⟩
  · obtain ⟨hk, hcur, hnb, -, hpin⟩ := frame_keeps (fun _ => rfl) hf
    exact ⟨hk, hcur, hnb, hpin⟩
  · obtain ⟨-, rfl⟩ := x8_next.1 hx
    exact ⟨(accessKeeps_byte _ _ s).move rfl, by simp⟩
  · obtain ⟨-, rfl⟩ := x8_next.1 hx
    exact ⟨(accessKeeps_byte _ _ s).move rfl, by simp⟩
  · obtain ⟨-, rfl⟩ := pushByte_next.1 hp
    exact ⟨(accessKeeps_push _ s).move rfl, by simp⟩
  · exact ⟨(accessKeeps_csDeassert s).move rfl, by simp⟩

/-- What a step of WRITE can be (R107). -/
theorem execWrite_next {a : Addr} {s t : State} (h : execWrite a s = .next t) :
    frame Config.opWrite a (loadData (fieldData s.cw)) s = .next t ∨
    frame Config.opWrite a (fun u => u.goto .dPop) s = .next t ∨
    sendByte s = .next t ∨ popToSend s = .next t ∨ sendArrayByte s = .next t ∨
    t = finish (csDeassert s) ∨ t = (csDeassert s).goto .aNext := by
  unfold execWrite at h
  split_ifs at h
  all_goals cases hs : s.seq <;> simp only [hs, next_eq_iff, reduceCtorEq] at h <;> simp [h]

/-- WRITE leaves `rdata` alone (R107, R180, R200). -/
theorem execWrite_keeps {a : Addr} {s t : State} (h : execWrite a s = .next t) :
    AccessKeeps s t ∧ t.rdata = s.rdata := by
  rcases execWrite_next h with hf | hf | hx | hp | hx | rfl | rfl
  · obtain ⟨hk, -, -, hrdata, -⟩ := frame_keeps (fun _ => rfl) hf
    exact ⟨hk, hrdata⟩
  · obtain ⟨hk, -, -, hrdata, -⟩ := frame_keeps (fun _ => rfl) hf
    exact ⟨hk, hrdata⟩
  · obtain ⟨-, rfl⟩ := x8_next.1 hx
    exact ⟨(accessKeeps_byte _ _ s).move rfl, by simp⟩
  · obtain ⟨v, rest, -, rfl⟩ := popByte_next.1 hp
    exact ⟨(accessKeeps_pop v rest s).move rfl, by simp⟩
  · obtain ⟨-, rfl⟩ := x8_next.1 hx
    exact ⟨(accessKeeps_byte _ _ s).move rfl, by simp⟩
  · exact ⟨(accessKeeps_csDeassert s).move rfl, by simp⟩
  · exact ⟨(accessKeeps_csDeassert s).move rfl, by simp⟩

/-- Settles O49, instruction by instruction. -/
theorem deviceInstructionFrame : Obligations.DeviceInstructionFrame := by
  intro i s t hi h
  rcases hi with rfl | rfl | ⟨a, rfl⟩ | ⟨a, rfl⟩
  · obtain ⟨⟨hcfg, hpoll, hresp, hvalid, hbytes⟩, hdata⟩ := wrenSeq_keeps h
    exact ⟨hcfg, hpoll, hresp, hvalid, fun _ => hdata, by simp, by simp, hbytes⟩
  · obtain ⟨⟨hcfg, hpoll, hresp, hvalid, hbytes⟩, hdata⟩ := wrdiSeq_keeps h
    exact ⟨hcfg, hpoll, hresp, hvalid, fun _ => hdata, by simp, by simp, hbytes⟩
  · obtain ⟨⟨hcfg, hpoll, hresp, hvalid, hbytes⟩, hdata⟩ := execRead_keeps h
    exact ⟨hcfg, hpoll, hresp, hvalid, by simp, by simp, fun _ => hdata, hbytes⟩
  · obtain ⟨⟨hcfg, hpoll, hresp, hvalid, hbytes⟩, hrdata⟩ := execWrite_keeps h
    exact ⟨hcfg, hpoll, hresp, hvalid, by simp, fun _ => hrdata, by simp, hbytes⟩

end Sys2Proof.Machine
end

section
/-! SUPPORT. The answers that the engine discards (R112): O25. -/

namespace Sys2Proof.Machine

/-- `s` with the answers the oracle is going to give (R25). -/
def State.answering (s : State) (answers : List Half) : State :=
  { s with env := { s.env with miso := answers } }

@[simp] theorem answering_seq (s : State) (answers : List Half) : (s.answering answers).seq = s.seq := rfl

@[simp] theorem answering_op (s : State) (answers : List Half) : (s.answering answers).op = s.op := rfl

/-- One exchange of `f` from `s` leaves no trace of its answer but in the history (R112). -/
def DiscardsAnswer (s : State) (f : State → Out) : Prop :=
  ∀ (m m' : Half) (rest : List Half) (t : State), f (s.answering (m :: rest)) = .next t →
    ∃ t', f (s.answering (m' :: rest)) = .next t' ∧ { t' with history := t.history } = t

/-- A continuation that only passes the events on. -/
def PassesEvents (k : State → State) : Prop :=
  ∀ e u, k (u.emit e) = (k u).emit e

theorem discardsAnswer_of_stops {s : State} {f : State → Out}
    (h : ∀ answers t, f (s.answering answers) ≠ .next t) : DiscardsAnswer s f :=
  fun _ _ _ _ hn => absurd hn (h _ _)

theorem DiscardsAnswer.congr {s : State} {f g : State → Out} (hg : DiscardsAnswer s g)
    (h : ∀ answers, f (s.answering answers) = g (s.answering answers)) : DiscardsAnswer s f := by
  intro m m' rest t hn
  rw [h] at hn ⊢
  exact hg m m' rest t hn

/-- The oracle's answer to a byte is the low byte of its next scripted answer (R25). -/
theorem deviceByte_answering {s : State} (ho : s.dev.mode = .oracle) (v : Byte) (m : Half) (rest : List Half) :
    deviceByte v (s.answering (m :: rest)) = (lowByte m, s.answering rest) := by
  simp [deviceByte, drawMiso, State.answering, ho]

/-- The oracle's answer to a word is its next scripted answer (R25). -/
theorem deviceHalf_answering {s : State} (ho : s.dev.mode = .oracle) (w : Half) (m : Half) (rest : List Half) :
    deviceHalf w (s.answering (m :: rest)) = (m, s.answering rest) := by
  simp [deviceHalf, drawMiso, State.answering, ho]

/-- An 8-bit exchange whose continuation ignores the answer. -/
theorem discardsAnswer_x8 {s : State} (ho : s.dev.mode = .oracle) (v : Byte) {k : State → State}
    (hk : PassesEvents k) : DiscardsAnswer s (fun u => x8 v u (fun _ => k)) := by
  intro m m' rest t h
  obtain ⟨hack, rfl⟩ := x8_next.1 h
  refine ⟨_, x8_next.2 ⟨hack, rfl⟩, ?_⟩
  rw [deviceByte_answering ho, deviceByte_answering ho, hk, hk]
  rfl

/-- A 16-bit exchange whose continuation ignores the answer. -/
theorem discardsAnswer_x16 {s : State} (ho : s.dev.mode = .oracle) (w : Half) {k : State → State}
    (hk : PassesEvents k) : DiscardsAnswer s (fun u => x16 w u (fun _ => k)) := by
  intro m m' rest t h
  obtain ⟨hack, rfl⟩ := x16_next.1 h
  refine ⟨_, x16_next.2 ⟨hack, rfl⟩, ?_⟩
  rw [deviceHalf_answering ho, deviceHalf_answering ho, hk, hk]
  rfl

/-- POLL()'s instruction byte (R103, R150). -/
theorem discardsAnswer_poll {s : State} (ho : s.dev.mode = .oracle) (hs : s.seq = .pCmd) (ready : State → State) :
    DiscardsAnswer s (poll ready) := by
  refine (discardsAnswer_x8 ho Config.opRdsr (k := fun u => u.goto .pSr) fun _ _ => rfl).congr fun answers => ?_
  simp only [poll, answering_seq, hs]

/-- WREN_SEQ()'s instruction byte (R101, R170). -/
theorem discardsAnswer_wrenSeq {s : State} (ho : s.dev.mode = .oracle) (hs : s.seq = .eCmd) :
    DiscardsAnswer s wrenSeq := by
  refine (discardsAnswer_x8 ho Config.opWren (k := fun u => u.goto .eCsh) fun _ _ => rfl).congr fun answers => ?_
  simp only [wrenSeq, answering_seq, hs]

/-- WRDI_SEQ()'s instruction byte (R102, R172). -/
theorem discardsAnswer_wrdiSeq {s : State} (ho : s.dev.mode = .oracle) (hs : s.seq = .wrdiCmd) :
    DiscardsAnswer s wrdiSeq := by
  refine (discardsAnswer_x8 ho Config.opWrdi (k := fun u => u.goto .wrdiCsh) fun _ _ => rfl).congr fun answers => ?_
  simp only [wrdiSeq, answering_seq, hs]

/-- Both words of a frame (R110, R112). -/
theorem discardsAnswer_frame {s : State} (ho : s.dev.mode = .oracle) (hs : s.seq = .fW1 ∨ s.seq = .fW2)
    (cmd : Byte) (a : Addr) {after : State → State} (hk : PassesEvents after) :
    DiscardsAnswer s (frame cmd a after) := by
  rcases hs with hs | hs
  · refine (discardsAnswer_x16 ho (frameW1 cmd a) (k := fun u => u.goto .fW2) fun _ _ => rfl).congr fun answers => ?_
    simp only [frame, answering_seq, hs]
  · refine (discardsAnswer_x16 ho (frameW2 a) hk).congr fun answers => ?_
    simp only [frame, answering_seq, hs]

/-- WRITE_BYTE's data byte (R107, R180). -/
theorem discardsAnswer_sendByte {s : State} (ho : s.dev.mode = .oracle) : DiscardsAnswer s sendByte :=
  (discardsAnswer_x8 ho s.b (k := fun u => { u with cnt := 1#24, seq := .fCsh }) fun _ _ => rfl).congr fun _ => rfl

/-- WRITE_ARRAY's data byte (R107, R200). -/
theorem discardsAnswer_sendArrayByte {s : State} (ho : s.dev.mode = .oracle) : DiscardsAnswer s sendArrayByte :=
  (discardsAnswer_x8 ho s.b (k := fun u => { u with
    cur := s.cur + 1#25, rem := s.rem - 1#24, nb := s.nb - 1#10, cnt := s.cnt + 1#24
    seq := if s.nb - 1#10 = 0#10 then .fCsh else .dPop }) fun _ _ => rfl).congr fun _ => rfl

theorem passesEvents_afterFrame (i : Instr) : PassesEvents (afterFrame i) := by
  cases i <;> intro _ _ <;> rfl

/-- The instruction byte of RDSR, whichever instruction sends it (R103, R150). -/
theorem exec_discards_pCmd {s : State} (ho : s.dev.mode = .oracle) (hs : s.seq = .pCmd) (i : Instr) :
    DiscardsAnswer s (exec i) := by
  have hphase : ∀ answers, isPollPhase (s.answering answers).seq = true := fun _ => by simp [hs, isPollPhase]
  cases i with
  | writeByte | readByte | writeArray | readArray | waitReady =>
    exact (discardsAnswer_poll ho hs _).congr fun answers => exec_pollPhase rfl (hphase answers)
  | rdsr =>
    by_cases hop : isPollingOp s.op = true
    · exact (discardsAnswer_poll ho hs (readyNext s.op)).congr fun answers =>
        exec_rdsr (s := s.answering answers) hop
    · exact discardsAnswer_of_stops fun answers t => by simp [exec, execRdsr, hop]
  | begin | wren | wrdi | wrsr | read | write =>
    refine discardsAnswer_of_stops fun answers t => ?_
    simp [exec, execBegin, execWren, wrenSeq, execWrdi, wrdiSeq, execWrsr, execRead, execWrite, hs]

/-- The instruction byte of WREN, whichever instruction sends it (R101, R170). -/
theorem exec_discards_eCmd {s : State} (ho : s.dev.mode = .oracle) (hs : s.seq = .eCmd) (i : Instr) :
    DiscardsAnswer s (exec i) := by
  have hphase : ∀ answers, isWrenPhase (s.answering answers).seq = true := fun _ => by simp [hs, isWrenPhase]
  cases i with
  | writeByte | writeArray =>
    exact (discardsAnswer_wrenSeq ho hs).congr fun answers => exec_wrenPhase rfl (hphase answers)
  | wren => exact discardsAnswer_wrenSeq ho hs
  | begin | readByte | readArray | waitReady | wrdi | rdsr | wrsr | read | write =>
    refine discardsAnswer_of_stops fun answers t => ?_
    simp [exec, execBegin, execReadByte, execReadArray, execWaitReady, execWrdi, wrdiSeq, execRdsr, poll, execWrsr,
      execRead, execWrite, hs]

/-- The instruction byte of WRDI, which no other instruction sends (R102, R172). -/
theorem exec_discards_wrdiCmd {s : State} (ho : s.dev.mode = .oracle) (hs : s.seq = .wrdiCmd) (i : Instr) :
    DiscardsAnswer s (exec i) := by
  cases i with
  | wrdi => exact discardsAnswer_wrdiSeq ho hs
  | begin | writeByte | readByte | writeArray | readArray | waitReady | wren | rdsr | wrsr | read | write =>
    refine discardsAnswer_of_stops fun answers t => ?_
    simp [exec, execBegin, execWriteByte, execReadByte, execWriteArray, execReadArray, execWaitReady, execWren,
      wrenSeq, execRdsr, poll, execWrsr, execRead, execWrite, hs]

/-- Both words of a frame, whichever instruction sends it (R105, R107, R110). -/
theorem exec_discards_frame {s : State} (ho : s.dev.mode = .oracle) (hs : s.seq = .fW1 ∨ s.seq = .fW2) (i : Instr) :
    DiscardsAnswer s (exec i) := by
  have hphase : ∀ answers, isFramePhase (s.answering answers).seq = true := fun _ => by
    rcases hs with hs | hs <;> simp [hs, isFramePhase]
  by_cases haccess : (writes i || reads i) = true
  · refine (discardsAnswer_frame ho hs (frameCmdOf i) (frameAddrOf i s) (passesEvents_afterFrame i)).congr
      fun answers => ?_
    have haddr : frameAddrOf i (s.answering answers) = frameAddrOf i s := by cases i <;> rfl
    rw [exec_framePhase haccess (hphase answers), haddr]
  cases i with
  | writeByte | readByte | writeArray | readArray => exact absurd rfl haccess
  | read a =>
    by_cases h3 : s.op = 0x3#4
    · exact (discardsAnswer_frame ho hs _ a fun _ _ => rfl).congr fun answers =>
        (execRead_readByte (s := s.answering answers) a h3).1 (hphase answers)
    by_cases h5 : s.op = 0x5#4
    · exact (discardsAnswer_frame ho hs _ a fun _ _ => rfl).congr fun answers =>
        (execRead_readArray (s := s.answering answers) a h5).1 (hphase answers)
    · exact discardsAnswer_of_stops fun answers t => by simp [exec, execRead, h3, h5]
  | write a =>
    by_cases h2 : s.op = 0x2#4
    · exact (discardsAnswer_frame ho hs _ a (after := loadData (fieldData s.cw)) fun _ _ => rfl).congr fun answers =>
        (execWrite_writeByte (s := s.answering answers) a h2).1 (hphase answers)
    by_cases h4 : s.op = 0x4#4
    · exact (discardsAnswer_frame ho hs _ a fun _ _ => rfl).congr fun answers =>
        (execWrite_writeArray (s := s.answering answers) a h4).1 (hphase answers)
    · exact discardsAnswer_of_stops fun answers t => by simp [exec, execWrite, h2, h4]
  | begin | waitReady | wren | wrdi | rdsr | wrsr =>
    refine discardsAnswer_of_stops fun answers t => ?_
    rcases hs with hs | hs <;>
      simp [exec, execBegin, execWaitReady, execWren, wrenSeq, execWrdi, wrdiSeq, execRdsr, poll, execWrsr, hs]

/-- A data byte out, whichever instruction sends it (R107). -/
theorem exec_discards_dTx {s : State} (ho : s.dev.mode = .oracle) (hs : s.seq = .dTx) (i : Instr) :
    DiscardsAnswer s (exec i) := by
  cases i with
  | writeByte =>
    exact (discardsAnswer_sendByte ho).congr fun answers => by simp only [exec, execWriteByte, answering_seq, hs]
  | writeArray =>
    exact (discardsAnswer_sendArrayByte ho).congr fun answers => by simp only [exec, execWriteArray, answering_seq, hs]
  | write a =>
    by_cases h2 : s.op = 0x2#4
    · exact (discardsAnswer_sendByte ho).congr fun answers =>
        by
        obtain ⟨-, hsend, -⟩ := execWrite_writeByte (s := s.answering answers) a h2
        exact hsend hs
    by_cases h4 : s.op = 0x4#4
    · exact (discardsAnswer_sendArrayByte ho).congr fun answers =>
        by
        obtain ⟨-, -, hsend, -⟩ := execWrite_writeArray (s := s.answering answers) a h4
        exact hsend hs
    · exact discardsAnswer_of_stops fun answers t => by simp [exec, execWrite, h2, h4]
  | begin | readByte | readArray | waitReady | wren | wrdi | rdsr | wrsr | read =>
    refine discardsAnswer_of_stops fun answers t => ?_
    simp [exec, execBegin, execReadByte, execReadArray, execWaitReady, execWren, wrenSeq, execWrdi, wrdiSeq, execRdsr,
      poll, execWrsr, execRead, hs]

/-- Settles O25, phase by phase. -/
theorem discardedAnswersLeaveNoTrace : Obligations.DiscardedAnswersLeaveNoTrace := by
  intro i s t m m' rest ho hs h
  have hdiscards : DiscardsAnswer s (exec i) := by
    rcases hs with hs | hs | hs | hs | hs | hs
    · exact exec_discards_pCmd ho hs i
    · exact exec_discards_eCmd ho hs i
    · exact exec_discards_wrdiCmd ho hs i
    · exact exec_discards_frame ho (.inl hs) i
    · exact exec_discards_frame ho (.inr hs) i
    · exact exec_discards_dTx ho hs i
  exact hdiscards m m' rest t h

end Sys2Proof.Machine
end

section
/-! SUPPORT. BEGIN at each of its phases, as a whole run, rejected, and what it leaves unchanged (R141 to R143): O16,
O17, O18, O45. -/

open Sys2Proof.Claims

namespace Sys2Proof.Machine

section
variable {csid : CsId} {clkhz : Hertz} {s t : State}

/-! One equation a line of R141, and one for each rejection of ACCEPT. -/

theorem exec_begin_zeroClock (hs : s.seq = .accept) : exec (.begin csid 0#32) s = .next (raise .rejIllegal s) := by
  simp only [exec, execBegin, hs, if_true]

theorem exec_begin_again (hs : s.seq = .accept) (hz : clkhz ≠ 0#32) (hi : s.init = true) :
    exec (.begin csid clkhz) s = .next (raise .rejAlreadyInit s) := by
  simp only [exec, execBegin, hs, if_neg hz, if_pos hi]

theorem exec_begin_start (hs : s.seq = .accept) (hz : clkhz ≠ 0#32) (hi : s.init = false) :
    exec (.begin csid clkhz) s = .next (s.goto .bCscfg) := by
  simp only [exec, execBegin, hs, if_neg hz, hi, Bool.false_eq_true, if_false]

theorem exec_begin_csConfig (hs : s.seq = .bCscfg) :
    exec (.begin csid clkhz) s = .next ({ csConfig csid s with clkHz := clkhz }.goto .bCsh) := by
  simp only [exec, execBegin, hs]

theorem exec_begin_csHigh (hs : s.seq = .bCsh) :
    exec (.begin csid clkhz) s = .next ((csDeassert s).goto .bSpicfg) := by
  simp only [exec, execBegin, hs]

theorem exec_begin_spiConfig (hs : s.seq = .bSpicfg) :
    exec (.begin csid clkhz) s = .next (finish { spiConfig s.clkHz s with init := true }) := by
  simp only [exec, execBegin, hs]

/-- What a step of BEGIN can be (R141 to R143, R235). -/
theorem exec_begin_next (h : exec (.begin csid clkhz) s = .next t) :
    (s.seq = .accept ∧ (t = raise .rejIllegal s ∨ t = raise .rejAlreadyInit s ∨ t = s.goto .bCscfg)) ∨
    (s.seq = .bCscfg ∧ t = { csConfig csid s with clkHz := clkhz }.goto .bCsh) ∨
    (s.seq = .bCsh ∧ t = (csDeassert s).goto .bSpicfg) ∨
    (s.seq = .bSpicfg ∧ t = finish { spiConfig s.clkHz s with init := true }) ∨
    (s.seq = .resp ∧ t = respond s) := by
  simp only [exec, execBegin] at h
  cases hs : s.seq <;> simp only [hs, next_eq_iff, reduceCtorEq] at h
  case accept =>
    split_ifs at h <;> simp [next_eq_iff.1 h]
  all_goals simp [h]

/-- BEGIN answers only at phases where a step runs the latched command (R50, R51). -/
theorem step_of_exec_begin (hr : s.env.rst = 0) (hd : decode (.host s.cw) = .ok (.begin csid clkhz))
    (h : exec (.begin csid clkhz) s = .next t) : step s = .next t := by
  have hphase : s.seq ≠ .idle ∧ isBare s.seq = false := by
    rcases exec_begin_next h with ⟨hs, -⟩ | ⟨hs, -⟩ | ⟨hs, -⟩ | ⟨hs, -⟩ | ⟨hs, -⟩ <;> simp [hs, isBare]
  obtain ⟨hidle, hbare⟩ := hphase
  rw [step_exec hr hidle hbare hd, h]

/-- The word of R120's format B with OP 1 is BEGIN's (R125, R141). -/
theorem decode_begin_of_cw (hw : s.cw = clkhz ++ 0#16 ++ csid ++ 0#4 ++ 0x1#4) :
    decode (.host s.cw) = .ok (.begin csid clkhz) := by
  rw [hw]
  exact decodeHost_begin csid clkhz

/-- A device with no transaction open takes no notice of Cs(1) (R86). -/
theorem Device.deselect_of_not_sel {d : Device} (h : d.sel = false) : d.deselect = d := by
  simp [Device.deselect, h]

/-- The engine that BEGIN has brought up, about to answer (R141). -/
def broughtUp (csid : CsId) (clkhz : Hertz) (s : State) : State :=
  { s with
    init := true, csId := csid, clkHz := clkhz, csOe := true, csN := true, result := .ok, seq := .resp
    dev := s.dev.deselect
    env := { s.env with session := some (clkhz, s.params.spiMode) }
    history := .spiCfg clkhz s.params.spiMode :: .cs true :: .csCfg csid :: s.history }

/-- The four lines of BEGIN before RESP, from ACCEPT (R51, R141). -/
theorem run_begin (k : Nat) (hr : s.env.rst = 0) (hd : decode (.host s.cw) = .ok (.begin csid clkhz))
    (hs : s.seq = .accept) (hz : clkhz ≠ 0#32) (hi : s.init = false) :
    Sys2Proof.core.run (k + 4) s = Sys2Proof.core.run k (broughtUp csid clkhz s) := by
  calc Sys2Proof.core.run (k + 4) s
      = Sys2Proof.core.run (k + 3) (s.goto .bCscfg) :=
        run_succ_of_step _ (step_of_exec_begin hr hd (exec_begin_start hs hz hi))
    _ = Sys2Proof.core.run (k + 2) { s with
          csId := csid, clkHz := clkhz, csOe := true, history := .csCfg csid :: s.history, seq := .bCsh } :=
        run_succ_of_step _ (step_of_exec_begin hr hd (exec_begin_csConfig rfl))
    _ = Sys2Proof.core.run (k + 1) { s with
          csId := csid, clkHz := clkhz, csOe := true, csN := true, dev := s.dev.deselect
          history := .cs true :: .csCfg csid :: s.history, seq := .bSpicfg } :=
        run_succ_of_step _ (step_of_exec_begin hr hd (exec_begin_csHigh rfl))
    _ = Sys2Proof.core.run k (broughtUp csid clkhz s) :=
        run_succ_of_step _ (step_of_exec_begin hr hd (exec_begin_spiConfig rfl))

end

/-- Settles O16, by BEGIN's equations. -/
theorem beginPerformsItsPhases : Obligations.BeginPerformsItsPhases :=
  fun _ _ _ => ⟨exec_begin_start, exec_begin_csConfig, exec_begin_csHigh, exec_begin_spiConfig,
    fun hs => exec_resp hs (.inr rfl)⟩

/-- Settles O17: BEGIN's four lines bring the engine up, and RESP answers them with a word of zeros. -/
theorem beginConfiguresTheEngine : Obligations.BeginConfiguresTheEngine := by
  intro csid hz s hr hs hne hi hw hsr hcnt hrdata hsel
  have hword : pendingResp (broughtUp csid hz s) = 0#64 := by
    simp [pendingResp, broughtUp, respWord, rdataOrZero, Result.code, hsr, hcnt, hrdata]
  calc Sys2Proof.core.run 5 s
      = Sys2Proof.core.run 1 (broughtUp csid hz s) := run_begin 1 hr (decode_begin_of_cw hw) hs hne hi
    _ = .next (respond (broughtUp csid hz s)) := run_succ_of_step 0 (step_resp hr rfl)
    _ = _ := by rw [respond, hword, broughtUp, Device.deselect_of_not_sel hsel]

/-- Only a reset clears `init` (R60, R143). -/
theorem EngineStep.init_kept {s t : State} (h : EngineStep s t) (hr : s.env.rst = 0) (hi : s.init = true) :
    t.init = true := by
  cases h with
  | reset hrst => exact absurd hr hrst
  | beginSpiConfig => rfl
  | _ => simp [hi]

/-- Settles O18: ACCEPT rejects both, RESP answers, and no step but a reset clears `init`. -/
theorem rejectedBegins : Obligations.RejectedBegins := by
  refine ⟨fun csid s hr hs hw => ?_, fun csid hz s hr hs hne hi hw => ?_, fun s t hr hi h => ?_⟩
  · exact onlyAnswered_of_rejected hr (r := .rejIllegal) (by simp)
      (step_of_exec_begin hr (decode_begin_of_cw hw) (exec_begin_zeroClock hs))
  · exact onlyAnswered_of_rejected hr (r := .rejAlreadyInit) (by simp)
      (step_of_exec_begin hr (decode_begin_of_cw hw) (exec_begin_again hs hne hi))
  · exact (step_engineStep h).init_kept hr hi

/-- Settles O45, by the cases of a step of BEGIN: Cs(1) is the one that reaches the device, and it stores nothing. -/
theorem beginFrame : Obligations.BeginFrame := by
  intro csid hz s t h
  rcases exec_begin_next h with ⟨hs, rfl | rfl | rfl⟩ | ⟨hs, rfl⟩ | ⟨hs, rfl⟩ | ⟨hs, rfl⟩ | ⟨hs, rfl⟩
  all_goals simp [SamePollRegisters, SameArrayRegisters, SameResponseButInResp, hs]

end Sys2Proof.Machine
end

section
/-! SUPPORT. The end of a poll, WAIT_READY at each of its phases, and what a poll leaves unchanged (R150 to R153, R159,
R160): O21, O22, O24, O46. -/

open Sys2Proof.Claims

namespace Sys2Proof.Machine

/-- Settles O21: ACCEPT dispatches to POLL(), which ends in FINISH(OK), and RESP answers. -/
theorem waitReadyPerformsItsPhases : Obligations.WaitReadyPerformsItsPhases := by
  refine fun s => ⟨fun hs hi _ => ?_, pollPhases_of_poll (exec_pollPhase rfl), fun hs => exec_resp hs (.inl rfl)⟩
  rw [exec_accept hs rfl]
  exact checkAndDispatch_next.2 (.inr (.inr ⟨hi, Bool.and_false _, rfl⟩))

/-- The step of P_TIME (R150, R152). -/
theorem step_pTime {s : State} {i : Instr} (hr : s.env.rst = 0) (hd : decode (.host s.cw) = .ok i)
    (hi : polls i = true) (hs : s.seq = .pTime) : step s = .next (afterTimeCheck s) := by
  rw [step_poll hr hd hi (by simp [hs, isPollPhase])]
  exact poll_next.2 (.inr (.inr (.inr (.inr (.inl ⟨hs, rfl⟩)))))

/-- The elapsed time is a difference modulo 2^32 (R155). -/
theorem afterTimeCheck_el_toNat (s : State) :
    (afterTimeCheck s).el.toNat = ((afterTimeCheck s).env.now.toNat + (2 ^ 32 - s.t0.toNat)) % 2 ^ 32 := by
  simp [afterTimeCheck, BitVec.toNat_sub, Nat.add_comm]

/-- P_TIME goes back to P_SR exactly while the poll's condition holds (R152). -/
theorem afterTimeCheck_seq_pSr_iff (s : State) :
    (afterTimeCheck s).seq = .pSr ↔
      s.sr.getLsbD 0 = true ∧ (afterTimeCheck s).el.toNat < s.params.busyTimeoutMs.toNat := by
  simp [afterTimeCheck, pollContinues_eq_true]

/-- P_TIME has two successors (R51, R152). -/
theorem afterTimeCheck_seq_pCsh_iff (s : State) :
    (afterTimeCheck s).seq = .pCsh ↔ ¬(afterTimeCheck s).seq = .pSr := by
  simp [afterTimeCheck]

/-- Settles O22, by the state after P_TIME. -/
theorem pollContinuesOnWipAndTime : Obligations.PollContinuesOnWipAndTime := by
  rintro s hr hs ⟨i, hd⟩ hop
  have hpoll : polls i = true := (polls_eq_isPollingOp hd).trans hop
  refine ⟨afterTimeCheck s, step_pTime hr hd hpoll hs, afterTimeCheck_el_toNat s, afterTimeCheck_seq_pSr_iff s, ?_⟩
  rw [afterTimeCheck_seq_pCsh_iff, afterTimeCheck_seq_pSr_iff]

/-- A polling command whose poll ends with WIP set raises BUSY (R153). -/
theorem step_pCsh_busy {s : State} {i : Instr} (hr : s.env.rst = 0) (hd : decode (.host s.cw) = .ok i)
    (hi : polls i = true) (hs : s.seq = .pCsh) (hw : wipSet s.sr = true) :
    step s = .next (raise .busy (csDeassert s)) := by
  rw [step_poll hr hd hi (by simp [hs, isPollPhase])]
  exact poll_next.2 (.inr (.inr (.inr (.inr (.inr (.inl ⟨hs, hw, rfl⟩))))))

/-- Settles O24: P_CSH raises BUSY with chip-select idle, and RESP answers. -/
theorem busyEndsTheOperation : Obligations.BusyEndsTheOperation := by
  rintro s hr hs ⟨i, hd⟩ hop hw
  have hpoll : polls i = true := (polls_eq_isPollingOp hd).trans hop
  have hraise : step s = .next (raise .busy (csDeassert s)) := step_pCsh_busy hr hd hpoll hs hw
  have hanswer : step (raise .busy (csDeassert s)) = .next (respond (raise .busy (csDeassert s))) := step_resp hr rfl
  obtain ⟨hresult, hdone, hsr, hrdata, -⟩ := respWord_fields s.sr s.cnt 0x00#8 .busy
  refine ⟨respond (raise .busy (csDeassert s)), ?_, rfl, rfl, rfl, rfl, hresult, hrdata, hdone, hsr, rfl,
    s.dev.deselect_mem⟩
  rw [run_succ_of_step 1 hraise, run_succ_of_step 0 hanswer]
  rfl

/-- Cs(0) leaves the write-enable latch alone (R86). -/
@[simp] theorem Device.select_wel (d : Device) : d.select.wel = d.wel := by
  unfold Device.select; split <;> rfl

/-- No exchanged byte sets the write-enable latch: that happens at Cs(1) (R88). -/
theorem deviceByte_wel {v : Byte} {s : State} (h : (deviceByte v s).2.dev.wel = true) : s.dev.wel = true := by
  unfold deviceByte at h
  split at h
  · apply Device.receive_wel v
    split at h <;> rename_i heq <;> simpa [heq] using h
  · simpa using h

/-- If the device has seen a byte of an open transaction, the transaction is an RDSR (R86, R87). -/
def Device.NoneButRdsr (d : Device) : Prop :=
  d.sel = true → 0 < d.pos → d.ins = Config.opRdsr

/-- Cs(1) of a transaction that is no WREN sets no write-enable latch (R88). -/
theorem Device.NoneButRdsr.deselect_wel {d : Device} (hd : d.NoneButRdsr) (h : d.deselect.wel = true) :
    d.wel = true := by
  refine Device.deselect_wel (fun ⟨hsel, hins, hpos⟩ => ?_) h
  have hrdsr : Config.opWren = Config.opRdsr := hins ▸ hd hsel (by omega)
  exact absurd hrdsr (by decide)

/-- What a step of WAIT_READY or RDSR keeps (R150, R159, R160). -/
structure PollKeeps (s t : State) : Prop where
  configuration : SameConfiguration s t
  data : SameData s t
  response : SameResponseButInResp s t
  bytes : SameDeviceBytes s t
  latch : s.dev.NoneButRdsr → t.dev.wel = true → s.dev.wel = true

theorem pollKeeps_refl (s : State) : PollKeeps s s where
  configuration := by simp [SameConfiguration]
  data := by simp [SameData, SameArrayRegisters]
  response := fun _ => ⟨rfl, rfl⟩
  bytes := sameDeviceBytes_of_mem rfl
  latch := fun _ => id

theorem pollKeeps_sampleTime (s : State) : PollKeeps s (sampleTime s) where
  configuration := by simp [SameConfiguration]
  data := by simp [SameData, SameArrayRegisters]
  response := fun _ => by simp
  bytes := sameDeviceBytes_of_mem (by simp)
  latch := fun _ => by simp

theorem pollKeeps_csAssert (s : State) : PollKeeps s (csAssert s) where
  configuration := (accessKeeps_csAssert s).configuration
  data := by simp [SameData, SameArrayRegisters]
  response := fun _ => ⟨rfl, rfl⟩
  bytes := (accessKeeps_csAssert s).bytes
  latch := fun _ => by simp

theorem pollKeeps_byte (v : Byte) (e : Event) (s : State) : PollKeeps s ((deviceByte v s).2.emit e) where
  configuration := (accessKeeps_byte v e s).configuration
  data := by simp [SameData, SameArrayRegisters]
  response := fun _ => by simp
  bytes := (accessKeeps_byte v e s).bytes
  latch := fun _ => deviceByte_wel

theorem pollKeeps_csDeassert (s : State) : PollKeeps s (csDeassert s) where
  configuration := (accessKeeps_csDeassert s).configuration
  data := by simp [SameData, SameArrayRegisters]
  response := fun _ => ⟨rfl, rfl⟩
  bytes := (accessKeeps_csDeassert s).bytes
  latch := Device.NoneButRdsr.deselect_wel

theorem pollKeeps_respond {s : State} (hs : s.seq = .resp) : PollKeeps s (respond s) where
  configuration := by simp [SameConfiguration]
  data := by simp [SameData, SameArrayRegisters]
  response := fun hne => absurd hs hne
  bytes := sameDeviceBytes_of_mem rfl
  latch := fun _ => id

/-- The register updates of the poll after a primitive (R51, R150) touch none of it. -/
theorem PollKeeps.move {s u t : State} (h : PollKeeps s u)
    (ht : t = { u with t0 := t.t0, sr := t.sr, el := t.el, seq := t.seq, result := t.result }) :
    PollKeeps s t := by
  rw [ht]
  exact ⟨h.configuration, h.data, h.response, h.bytes, h.latch⟩

/-- POLL() whose successor writes at most the phase and the outcome (R51, R150). -/
theorem poll_keeps {ready : State → State} {s t : State}
    (hready : ∀ u, ready u = { u with seq := (ready u).seq, result := (ready u).result })
    (h : poll ready s = .next t) : PollKeeps s t := by
  rcases poll_next.1 h with ⟨-, rfl⟩ | ⟨-, rfl⟩ | ⟨-, -, rfl⟩ | ⟨-, -, rfl⟩ | ⟨-, rfl⟩ | ⟨-, -, rfl⟩ | ⟨-, -, rfl⟩
  · exact (pollKeeps_sampleTime s).move rfl
  · exact (pollKeeps_csAssert s).move rfl
  · exact (pollKeeps_byte _ _ s).move rfl
  · exact (pollKeeps_byte _ _ s).move rfl
  · exact (pollKeeps_sampleTime s).move rfl
  · exact (pollKeeps_csDeassert s).move rfl
  · rw [hready]
    exact (pollKeeps_csDeassert s).move rfl

/-- What a step of WAIT_READY can be (R160, R235). -/
theorem exec_waitReady_next {s t : State} (h : exec .waitReady s = .next t) :
    checkAndDispatch false (fun u => u.goto .pT0) s = .next t ∨ poll finish s = .next t ∨
    (s.seq = .resp ∧ t = respond s) := by
  simp only [exec, execWaitReady] at h
  cases hs : s.seq <;> simp only [hs, next_eq_iff, reduceCtorEq] at h <;> simp [h]

/-- WAIT_READY's ACCEPT, its poll and its RESP. -/
theorem exec_waitReady_keeps {s t : State} (h : exec .waitReady s = .next t) : PollKeeps s t := by
  rcases exec_waitReady_next h with hc | hp | ⟨hs, rfl⟩
  · rcases checkAndDispatch_next.1 hc with ⟨-, rfl⟩ | ⟨-, -, rfl⟩ | ⟨-, -, rfl⟩
    all_goals exact (pollKeeps_refl s).move rfl
  · exact poll_keeps (fun _ => rfl) hp
  · exact pollKeeps_respond hs

/-- RDSR's poll, whichever command it is performed in (R51, R158). -/
theorem exec_rdsr_keeps {s t : State} (h : exec .rdsr s = .next t) : PollKeeps s t := by
  by_cases hop : isPollingOp s.op = true
  · rw [exec_rdsr hop] at h
    refine poll_keeps (fun u => ?_) h
    unfold readyNext
    split_ifs <;> rfl
  · simp [exec, execRdsr, hop] at h

/-- Settles O46, instruction by instruction. -/
theorem pollFrame : Obligations.PollFrame := by
  intro i s t hi h
  have hkeeps : PollKeeps s t := by
    rcases hi with rfl | rfl
    · exact exec_waitReady_keeps h
    · exact exec_rdsr_keeps h
  obtain ⟨hcfg, ⟨harray, hcnt, hrdata, hb, hpin⟩, hresp, hbytes, hlatch⟩ := hkeeps
  exact ⟨hcfg, harray, hresp, hcnt, hrdata, hb, hpin, hbytes, hlatch⟩

end Sys2Proof.Machine
end

section
/-! SUPPORT. The events from the end of a poll to the WRITE frame it arms, phase by phase (R150, R170, R171): O57. -/

namespace Sys2Proof.Machine

/-- What the history ends with at each phase from a poll's status byte to the frame's second word: the clauses of
`ArmedInv` about the phase, one at a time (R150, R170, R171). -/
def phaseHistory (s : State) : Prop :=
  match s.seq with
  | .pTime => ∃ h, s.history = .xfer8 Config.dummyByte s.sr :: h
  | .pCsh => ∃ t h, s.history = .time t :: .xfer8 Config.dummyByte s.sr :: h
  | .eCsl => pollEnd s.history = true
  | .eCmd => ∃ h, s.history = .cs false :: h ∧ pollEnd h = true
  | .eCsh => ∃ m h, s.history = .xfer8 Config.opWren m :: .cs false :: h ∧ pollEnd h = true
  | .fCsl => s.op = 0x2#4 ∨ s.op = 0x4#4 → armed s.history = true
  | .fW1 => s.op = 0x2#4 ∨ s.op = 0x4#4 → ∃ h, s.history = .cs false :: h ∧ armed h = true
  | .fW2 => opensTransaction s.history = false
  | _ => True

/-- The invariant is that every WRITE frame is armed, and the clause of the phase at hand. -/
theorem armedInv_iff (s : State) : ArmedInv s ↔ writesArmed s.history = true ∧ phaseHistory s := by
  constructor
  · intro ha
    refine ⟨ha.armedWrites, ?_⟩
    cases hs : s.seq <;> simp only [phaseHistory, hs]
    case pTime => exact ha.statusRead hs
    case pCsh => exact ha.statusTimed hs
    case eCsl => exact ha.pollEnded hs
    case eCmd => exact ha.wrenOpen hs
    case eCsh => exact ha.wrenSent hs
    case fCsl => exact ha.frameNext hs
    case fW1 => exact ha.frameOpen hs
    case fW2 => exact ha.frameSecond hs
  · rintro ⟨hw, hp⟩
    constructor
    case armedWrites => exact hw
    all_goals
      intro hs
      simpa only [phaseHistory, hs] using hp

/-- A first word whose high byte is not WRITE's code opens no WRITE frame (R105, R171). -/
theorem writesArmed_notWrite {w m : Half} {h : List Event} (hw : highByte w ≠ Config.opWrite) :
    writesArmed (.xfer16 w m :: h) = writesArmed h := by
  conv => lhs; unfold writesArmed
  split
  · rename_i heq
    cases heq
    simp [hw]
  · simp

/-- A frame that opens on an armed history keeps every WRITE frame armed (R171). -/
theorem writesArmed_frame {w m : Half} {h : List Event} (ha : armed h = true) :
    writesArmed (.xfer16 w m :: .cs false :: h) = writesArmed (.cs false :: h) := by
  conv => lhs; unfold writesArmed
  simp [ha]

/-- The 16-bit exchanges are a frame's two words (R110). -/
theorem half_of_spiRequest {s : State} {w : Half} (hr : spiRequest s = some (.half w)) :
    (s.seq = .fW1 ∧ highByte w = frameCommand s) ∨ s.seq = .fW2 := by
  cases hs : s.seq <;> simp [spiRequest, hs] at hr
  · exact .inl ⟨rfl, by rw [← hr, highByte_frameW1]⟩
  · exact .inr rfl

/-- The commands that write are OP 2 and OP 4 (R121, R171). -/
theorem writes_iff_op {s : State} {i : Instr} (hd : decode (.host s.cw) = .ok i) :
    writes i = true ↔ s.op = 0x2#4 ∨ s.op = 0x4#4 := by
  rcases decode_host_cases hd with ⟨ho, rfl⟩ | ⟨ho, rfl⟩ | ⟨ho, rfl⟩ | ⟨ho, rfl⟩ | ⟨ho, rfl⟩ | ⟨ho, rfl⟩ <;>
    simp [writes, State.op, ho]

/-- Only a frame's first word can open a WRITE frame, and of a command that writes it finds the history armed
(R110, R171). -/
theorem HistoryGrowth.armedWrites {s t : State} (h : HistoryGrowth s t) (ha : ArmedInv s) :
    writesArmed t.history = true := by
  cases h with
  | nothing _ _ ht => rw [ht, ha.armedWrites]
  | byte v m _ _ ht => rw [ht, writesArmed_other (by simp), ha.armedWrites]
  | other e ht _ _ _ h16 => rw [ht, writesArmed_other h16, ha.armedWrites]
  | half w m _ hr ht =>
    rcases half_of_spiRequest hr with ⟨hs, hw⟩ | hs
    · by_cases hop : s.op = 0x2#4 ∨ s.op = 0x4#4
      · obtain ⟨h, hopen, harmed⟩ := ha.frameOpen hs hop
        rw [ht, hopen, writesArmed_frame harmed, ← hopen, ha.armedWrites]
      · rw [frameCommand, if_neg hop] at hw
        rw [ht, writesArmed_notWrite (by rw [hw]; decide), ha.armedWrites]
    · rw [ht, writesArmed_inside (ha.frameSecond hs), ha.armedWrites]

/-- Each phase between a poll's status byte and the frame's second word is entered from the one before it, and adds its
event to what that one found (R51, R150, R170). -/
theorem EngineStep.keepsPhaseHistory {s t : State} (h : EngineStep s t) (ha : ArmedInv s) : phaseHistory t := by
  cases h with
  | pollStatus => exact ⟨s.history, by simp⟩
  | pollTime _ hs =>
    obtain ⟨before, hread⟩ := ha.statusRead hs
    cases hc : pollContinues s.params s.sr (nextSample s - s.t0) <;> simp [phaseHistory, hread]
  | pollReady _ hs i hd _ hw =>
    obtain ⟨sample, before, htimed⟩ := ha.statusTimed hs
    rcases afterPoll_cases i (csDeassert s) with ⟨-, h⟩ | ⟨-, h⟩ | ⟨-, hnot, h⟩ <;> rw [h]
    · trivial
    · simpa [phaseHistory, htimed, pollEnd_iff] using hw
    · intro hop
      exact absurd ((writes_iff_op hd).2 hop) (by simp [hnot])
  | wrenOpen _ hs => exact ⟨s.history, rfl, ha.pollEnded hs⟩
  | wrenCommand _ hs =>
    obtain ⟨before, hopen, hend⟩ := ha.wrenOpen hs
    exact ⟨_, before, by simp [hopen]; rfl, hend⟩
  | wrenClose _ hs =>
    obtain ⟨m, before, hsent, hend⟩ := ha.wrenSent hs
    intro _
    simp [hsent, armed_wren hend]
  | frameOpen _ hs => exact fun hop => ⟨s.history, rfl, ha.frameNext hs hop⟩
  | frameFirst => simp [phaseHistory, opensTransaction]
  | start _ _ i => rcases dispatchOf_seq i s with h | h <;> simp [phaseHistory, h]
  | frameSecond _ _ i => rcases afterFrame_seq i _ with h | h | h | h <;> rw [phaseHistory, h] <;> trivial
  | close _ _ i => rcases afterClose_seq i (csDeassert s) with ⟨h, -⟩ | h <;> simp [phaseHistory, h]
  | pageAdvance => rcases pageAdvance_seq s with ⟨h, -⟩ | h <;> simp [phaseHistory, h]
  | sendArrayByte => by_cases hn : s.nb - 1#10 = 0#10 <;> simp [phaseHistory, hn]
  | push => by_cases hn : s.rem - 1#24 = 0#24 <;> simp [phaseHistory, hn]
  | _ => trivial

/-- Settles O57: the frames of the history, and the clause of the phase. -/
theorem everyWriteIsArmed : Obligations.EveryWriteIsArmed := by
  intro s t ha h
  have hstep := step_engineStep h
  exact (armedInv_iff t).2 ⟨hstep.historyGrowth.armedWrites ha, hstep.keepsPhaseHistory ha⟩

end Sys2Proof.Machine
end

section
/-! SUPPORT. WRITE_BYTE and READ_BYTE at each of their phases, and what they leave unchanged (R180, R185): O31, O32,
O47. -/

open Sys2Proof.Claims

namespace Sys2Proof.Machine

/-- ACCEPT of a polling command that R235 lets pass is its dispatch (R51). -/
theorem acceptPhase_of_polls {i : Instr} {outOfBounds : Prop} (hi : polls i = true)
    (hb : instrOutOfBounds i = true → outOfBounds) (s : State) : AcceptPhase i outOfBounds (dispatchOf i) s := by
  intro hs hinit hbounds
  have hpass : (s.params.boundsCheck && instrOutOfBounds i) = false := by
    rw [Bool.and_eq_false_imp, ← Bool.not_eq_true]
    exact fun hcheck hout => hbounds hcheck (hb hout)
  rw [exec_accept hs hi]
  exact checkAndDispatch_next.2 (.inr (.inr ⟨hinit, hpass, rfl⟩))

/-- The bounds check of a byte command (R236). -/
theorem byteOutOfBounds_iff {a : Addr} : byteOutOfBounds a = true ↔ Config.capacity ≤ a.toNat := decide_eq_true_iff

/-- F_CSH of a command with a device access is its CS_DEASSERT() and the successor of R51. -/
theorem exec_close {i : Instr} {s : State} (hi : (writes i || reads i) = true) (hs : s.seq = .fCsh) :
    exec i s = .next (afterClose i (csDeassert s)) := by
  cases i with
  | writeByte | readByte | writeArray | readArray =>
    simp only [exec, execWriteByte, execReadByte, execWriteArray, execReadArray, hs]
    rfl
  | _ => simp [writes, reads] at hi

/-- D_TX of WRITE_BYTE (R180). -/
theorem exec_writeByte_dTx {a : Addr} {v : Byte} {s : State} (hs : s.seq = .dTx) :
    exec (.writeByte a v) s = sendByte s := by
  simp only [exec, execWriteByte, hs]

/-- D_RX of READ_BYTE (R185). -/
theorem exec_readByte_dRx {a : Addr} {s : State} (hs : s.seq = .dRx) :
    exec (.readByte a) s = receiveByte s := by
  simp only [exec, execReadByte, hs]

/-- Settles O31: ACCEPT, the poll, WREN, the frame, the data byte, the close and the response. -/
theorem writeBytePerformsItsPhases : Obligations.WriteBytePerformsItsPhases := by
  refine fun a v s => ⟨acceptPhase_of_polls (i := .writeByte a v) rfl byteOutOfBounds_iff.1 s,
    pollPhases_of_poll (exec_pollPhase rfl), wrenPhases_of_wrenSeq (exec_wrenPhase rfl),
    framePhases_of_frame (exec_framePhase rfl), fun hs ha => ?_, exec_close rfl, fun hs => exec_resp hs (.inl rfl)⟩
  rw [exec_writeByte_dTx hs]
  exact x8_of_ack ha

/-- Settles O32: ACCEPT, the poll, the frame, the data byte, the close and the response. -/
theorem readBytePerformsItsPhases : Obligations.ReadBytePerformsItsPhases := by
  refine fun a s => ⟨acceptPhase_of_polls (i := .readByte a) rfl byteOutOfBounds_iff.1 s,
    pollPhases_of_poll (exec_pollPhase rfl), framePhases_of_frame (exec_framePhase rfl), fun hs ha => ?_,
    exec_close rfl, fun hs => exec_resp hs (.inl rfl)⟩
  rw [exec_readByte_dRx hs]
  exact x8_of_ack ha

/-- What a step of WRITE_BYTE or READ_BYTE keeps, but for `rdata` (R180, R185). -/
structure ByteKeeps (s t : State) : Prop where
  configuration : SameConfiguration s t
  arrayRegisters : SameArrayRegisters s t
  response : SameResponseButInResp s t
  pin : t.env.pin = s.env.pin
  pollRegisters : isPollPhase s.seq = false → SamePollRegisters s t
  bytes : SameDeviceBytes s t

/-- A step of the poll. -/
theorem PollKeeps.byteKeeps {s t : State} (h : PollKeeps s t)
    (hpoll : isPollPhase s.seq = false → SamePollRegisters s t) : ByteKeeps s t := by
  obtain ⟨hcfg, ⟨harray, -, -, -, hpin⟩, hresp, hbytes, -⟩ := h
  exact ⟨hcfg, harray, hresp, hpin, hpoll, hbytes⟩

/-- A step of a device access. -/
theorem AccessKeeps.byteKeeps {s t : State} (h : AccessKeeps s t) (harray : SameArrayRegisters s t)
    (hpin : t.env.pin = s.env.pin) : ByteKeeps s t :=
  ⟨h.configuration, harray, fun _ => ⟨h.resp, h.respValid⟩, hpin, fun _ => h.pollRegisters, h.bytes⟩

/-- POLL() answers only in its own phases (R150). -/
theorem isPollPhase_of_poll {ready : State → State} {s t : State} (h : poll ready s = .next t) :
    isPollPhase s.seq = true := by
  rw [isPollPhase_iff]
  rcases poll_next.1 h with ⟨hs, -⟩ | ⟨hs, -⟩ | ⟨hs, -⟩ | ⟨hs, -⟩ | ⟨hs, -⟩ | ⟨hs, -⟩ | ⟨hs, -⟩ <;> simp [hs]

/-- ACCEPT of a byte command writes the phase and the outcome (R235). -/
theorem checkAndDispatch_byteKeeps {oob : Bool} {s t : State}
    (h : checkAndDispatch oob (fun u => u.goto .pT0) s = .next t) : ByteKeeps s t ∧ t.rdata = s.rdata := by
  rcases checkAndDispatch_next.1 h with ⟨-, rfl⟩ | ⟨-, -, rfl⟩ | ⟨-, -, rfl⟩
  all_goals exact ⟨((pollKeeps_refl s).move rfl).byteKeeps fun _ => ⟨rfl, rfl, rfl⟩, rfl⟩

/-- The poll of a byte command (R150). -/
theorem poll_byteKeeps {p : Phase} {s t : State} (h : poll (fun u => u.goto p) s = .next t) :
    ByteKeeps s t ∧ t.rdata = s.rdata := by
  have hkeeps : PollKeeps s t := poll_keeps (fun _ => rfl) h
  obtain ⟨-, -, hrdata, -, -⟩ := hkeeps.data
  exact ⟨hkeeps.byteKeeps fun hn => by simp [isPollPhase_of_poll h] at hn, hrdata⟩

/-- A frame whose successor leaves `rem` leaves it (R110). -/
theorem frame_rem {cmd : Byte} {a : Addr} {after : State → State} {s t : State}
    (hafter : ∀ u, (after u).rem = u.rem) (h : frame cmd a after s = .next t) : t.rem = s.rem := by
  rcases frame_next.1 h with ⟨-, rfl⟩ | ⟨-, -, rfl⟩ | ⟨-, -, rfl⟩ <;> simp [hafter]

/-- The frame of a byte command (R110). -/
theorem frame_byteKeeps {cmd : Byte} {a : Addr} {after : State → State} {s t : State}
    (hafter : ∀ u, after u = { u with b := (after u).b, seq := (after u).seq })
    (h : frame cmd a after s = .next t) : ByteKeeps s t ∧ t.rdata = s.rdata := by
  obtain ⟨hkeeps, hcur, hnb, hrdata, hpin⟩ := frame_keeps hafter h
  have hrem : t.rem = s.rem := frame_rem (fun u => by rw [hafter]) h
  exact ⟨hkeeps.byteKeeps ⟨hcur, hrem, hnb⟩ hpin, hrdata⟩

/-- F_CSH of a byte command (R180, R185). -/
theorem close_byteKeeps (s : State) : ByteKeeps s (finish (csDeassert s)) :=
  ((accessKeeps_csDeassert s).move rfl).byteKeeps ⟨rfl, rfl, rfl⟩ rfl

/-- RESP (R240). -/
theorem respond_byteKeeps {s : State} (hs : s.seq = .resp) : ByteKeeps s (respond s) :=
  (pollKeeps_respond hs).byteKeeps fun _ => ⟨rfl, rfl, rfl⟩

/-- What a step of WRITE_BYTE can be (R180). -/
theorem exec_writeByte_next {a : Addr} {v : Byte} {s t : State} (h : exec (.writeByte a v) s = .next t) :
    checkAndDispatch (byteOutOfBounds a) (fun u => u.goto .pT0) s = .next t ∨
    poll (fun u => u.goto .eCsl) s = .next t ∨ wrenSeq s = .next t ∨
    frame Config.opWrite a (loadData v) s = .next t ∨ sendByte s = .next t ∨
    t = finish (csDeassert s) ∨ (s.seq = .resp ∧ t = respond s) := by
  simp only [exec, execWriteByte] at h
  cases hs : s.seq <;> simp only [hs, next_eq_iff, reduceCtorEq] at h <;> simp [h]

/-- What a step of READ_BYTE can be (R185). -/
theorem exec_readByte_next {a : Addr} {s t : State} (h : exec (.readByte a) s = .next t) :
    checkAndDispatch (byteOutOfBounds a) (fun u => u.goto .pT0) s = .next t ∨
    poll (fun u => u.goto .fCsl) s = .next t ∨ frame Config.opRead a (fun u => u.goto .dRx) s = .next t ∨
    receiveByte s = .next t ∨ t = finish (csDeassert s) ∨ (s.seq = .resp ∧ t = respond s) := by
  simp only [exec, execReadByte] at h
  cases hs : s.seq <;> simp only [hs, next_eq_iff, reduceCtorEq] at h <;> simp [h]

/-- WRITE_BYTE leaves `rdata` too (R180). -/
theorem exec_writeByte_keeps {a : Addr} {v : Byte} {s t : State} (h : exec (.writeByte a v) s = .next t) :
    ByteKeeps s t ∧ t.rdata = s.rdata := by
  rcases exec_writeByte_next h with hc | hp | hw | hf | hx | rfl | ⟨hs, rfl⟩
  · exact checkAndDispatch_byteKeeps hc
  · exact poll_byteKeeps hp
  · obtain ⟨hkeeps, harray, -, hrdata, -, hpin⟩ := wrenSeq_keeps hw
    exact ⟨hkeeps.byteKeeps harray hpin, hrdata⟩
  · exact frame_byteKeeps (fun _ => rfl) hf
  · obtain ⟨-, rfl⟩ := x8_next.1 hx
    exact ⟨((accessKeeps_byte _ _ s).move rfl).byteKeeps (by simp [SameArrayRegisters]) (by simp), by simp⟩
  · exact ⟨close_byteKeeps s, rfl⟩
  · exact ⟨respond_byteKeeps hs, rfl⟩

/-- READ_BYTE's frame condition (R185). -/
theorem exec_readByte_keeps {a : Addr} {s t : State} (h : exec (.readByte a) s = .next t) : ByteKeeps s t := by
  rcases exec_readByte_next h with hc | hp | hf | hx | rfl | ⟨hs, rfl⟩
  · exact (checkAndDispatch_byteKeeps hc).1
  · exact (poll_byteKeeps hp).1
  · exact (frame_byteKeeps (fun _ => rfl) hf).1
  · obtain ⟨-, rfl⟩ := x8_next.1 hx
    exact ((accessKeeps_byte _ _ s).move rfl).byteKeeps (by simp [SameArrayRegisters]) (by simp)
  · exact close_byteKeeps s
  · exact respond_byteKeeps hs

/-- Settles O47, command by command. -/
theorem byteCommandFrame : Obligations.ByteCommandFrame := by
  refine ⟨fun a v s t h => ?_, fun a s t h => ?_⟩
  · obtain ⟨⟨hcfg, harray, hresp, hpin, hpoll, hbytes⟩, hrdata⟩ := exec_writeByte_keeps h
    exact ⟨hcfg, harray, hresp, hrdata, hpin, hpoll, hbytes⟩
  · obtain ⟨hcfg, harray, hresp, hpin, hpoll, hbytes⟩ := exec_readByte_keeps h
    exact ⟨hcfg, harray, hresp, hpin, hpoll, hbytes⟩

end Sys2Proof.Machine
end

section
/-! SUPPORT. Whole runs of WRITE_BYTE and READ_BYTE to the reference device, transaction by transaction (R85 to R90,
R180, R185): O33, O34. -/

namespace Sys2Proof.Machine

/-! The device inside the transactions the engine makes of it. -/

/-- The device after the first word of a frame: the instruction and the address's first byte (R78, R86). -/
def Device.afterFirstWord (d : Device) (cmd : Byte) (a : Addr) : Device :=
  { d.afterInstruction cmd with addr := (0#24).extractLsb' 0 16 ++ a.extractLsb' 16 8, pos := 2 }

theorem Device.select_of_reference {d : Device} (hm : d.mode = .reference) :
    d.select = { d.closed with sel := true } := if_pos hm

/-- Cs(0) and the instruction byte of a transaction (R86). -/
theorem Device.receive_select {d : Device} {cmd : Byte} (hm : d.mode = .reference) (hk : deviceKnows cmd = true) :
    d.select.receive cmd = (.byte 0x00#8, d.afterInstruction cmd) := by
  rw [Device.select_of_reference hm, Device.receive_instruction rfl hk]
  rfl

/-- A status read while no write cycle is in flight (R87). -/
theorem Device.receive_idleStatus {d : Device} (hw : d.wip = false) (v : Byte) :
    (d.afterInstruction Config.opRdsr).receive v =
      (.byte d.statusByte, { d.afterInstruction Config.opRdsr with pos := 2 }) := by
  have hcount : (d.afterInstruction Config.opRdsr).countRead = d.afterInstruction Config.opRdsr :=
    if_neg (by simp [Device.afterInstruction, hw])
  rw [Device.receive_status rfl (le_refl 1), hcount]
  rfl

/-- The status byte's WIP (R87, R106). -/
@[simp] theorem wipSet_statusByte (d : Device) : wipSet d.statusByte = d.wip := by
  cases hw : d.wip <;> cases hl : d.wel <;> rw [wipSet, Device.statusByte, hw, hl] <;> rfl

/-- A reference device in a transaction answers a byte as it receives it (R86). -/
theorem deviceByte_of_receive {s : State} {v m : Byte} {d : Device} (hm : s.dev.mode = .reference)
    (hsel : s.dev.sel = true) (hr : s.dev.receive v = (.byte m, d)) :
    deviceByte v s = (m, { s with dev := d }) := by
  simp [deviceByte, hm, hsel, hr]

/-- A reference device in a transaction receives a word as its two bytes (R77, R86). -/
theorem deviceHalf_of_receive {s : State} {w : Half} {m n : Byte} {d e : Device} (hm : s.dev.mode = .reference)
    (hsel : s.dev.sel = true) (hh : s.dev.receive (highByte w) = (.byte m, d)) (hdm : d.mode = .reference)
    (hdsel : d.sel = true) (hl : d.receive (lowByte w) = (.byte n, e)) :
    deviceHalf w s = (m ++ n, { s with dev := e }) := by
  have hlow : deviceByte (lowByte w) { s with dev := d } = (n, { s with dev := e }) :=
    deviceByte_of_receive (s := { s with dev := d }) hdm hdsel hl
  simp only [deviceHalf, if_pos hm, deviceByte_of_receive hm hsel hh, hlow]

/-- The first word of a frame (R78, R86). -/
theorem deviceHalf_frameW1 {s : State} {d : Device} {cmd : Byte} (hdev : s.dev = d.select)
    (hm : d.mode = .reference) (hc : cmd = Config.opRead ∨ cmd = Config.opWrite) (a : Addr) :
    (deviceHalf (frameW1 cmd a) s).2 = { s with dev := d.afterFirstWord cmd a } := by
  have hk : deviceKnows cmd = true := by rcases hc with rfl | rfl <;> decide
  have hopen : s.dev = { d.closed with sel := true } := hdev.trans (Device.select_of_reference hm)
  have hhigh : s.dev.receive (highByte (frameW1 cmd a)) = (.byte 0x00#8, d.afterInstruction cmd) := by
    rw [hdev, highByte_frameW1, Device.receive_select hm hk]
  have hlow : (d.afterInstruction cmd).receive (lowByte (frameW1 cmd a)) =
      (.byte 0x00#8, d.afterFirstWord cmd a) := by
    rw [Device.receive_address (by exact hc) (le_refl 1) (by simp [Device.afterInstruction]), lowByte_frameW1]
    rfl
  rw [deviceHalf_of_receive (by rw [hopen]; exact hm) (by rw [hopen]) hhigh (by exact hm) rfl hlow]

/-- The second word of a frame (R78, R86). -/
theorem deviceHalf_frameW2 {s : State} {d : Device} {cmd : Byte} {a : Addr} (hdev : s.dev = d.afterFirstWord cmd a)
    (hm : d.mode = .reference) (hc : cmd = Config.opRead ∨ cmd = Config.opWrite) :
    (deviceHalf (frameW2 a) s).2 = { s with dev := d.afterAddress cmd a } := by
  have hhigh := Device.receive_address (d := d.afterFirstWord cmd a) hc (by simp [Device.afterFirstWord])
    (by simp [Device.afterFirstWord]) (highByte (frameW2 a))
  rw [← hdev] at hhigh
  rw [deviceHalf_of_receive (by rw [hdev]; exact hm) (by rw [hdev]; rfl) hhigh (by rw [hdev]; exact hm)
    (by rw [hdev]; rfl) (Device.receive_address (by rw [hdev]; exact hc) (by simp)
      (by simp [hdev, Device.afterFirstWord]) _)]
  simp only [hdev, Device.afterFirstWord, highByte_frameW2, lowByte_frameW2, address_of_bytes]
  rfl

/-! A run, a part at a time. -/

/-- `n` steps lead from `s` to a state with `P`. -/
def Reaches (n : Nat) (s : State) (P : State → Prop) : Prop :=
  ∃ t, Sys2Proof.core.run n s = .next t ∧ P t

/-- A run that has made `m` steps goes on from there. -/
theorem run_add_of_run {m : Nat} (n : Nat) {s t : State} (h : Sys2Proof.core.run m s = .next t) :
    Sys2Proof.core.run (n + m) s = Sys2Proof.core.run n t := by
  induction m generalizing s with
  | zero => rw [next_eq_iff.1 h, Nat.add_zero]
  | succ m ih =>
    cases hs : step s with
    | next u =>
      rw [run_succ_of_step _ hs] at h
      rw [← Nat.add_assoc, run_succ_of_step _ hs, ih h]
    | _ => simp [Host.Core.run, Sys2Proof.core, hs] at h

theorem Reaches.of_step {s t : State} {P : State → Prop} (h : step s = .next t) (ht : P t) : Reaches 1 s P :=
  ⟨t, run_succ_of_step 0 h, ht⟩

theorem Reaches.mono {n : Nat} {s : State} {P Q : State → Prop} (h : Reaches n s P) (hpq : ∀ t, P t → Q t) :
    Reaches n s Q := by
  obtain ⟨t, hst, ht⟩ := h
  exact ⟨t, hst, hpq t ht⟩

theorem Reaches.andThen {m n : Nat} {s : State} {P Q : State → Prop} (h : Reaches m s P)
    (hn : ∀ t, P t → Reaches n t Q) : Reaches (n + m) s Q := by
  obtain ⟨t, hst, ht⟩ := h
  obtain ⟨u, htu, hu⟩ := hn t ht
  exact ⟨u, (run_add_of_run n hst).trans htu, hu⟩

/-- The command `i` before its phase `p`: no reset, a transport that acknowledges, the command's word latched. `sr` is
the last status byte, `d` the device, and `sent` the history without the answers. -/
structure Underway (i : Instr) (p : Phase) (sr : Byte) (d : Device) (sent : List Event) (s : State) : Prop where
  rst : s.env.rst = 0
  ack : s.env.spiAck = true
  latched : decode (.host s.cw) = .ok i
  phase : s.seq = p
  status : s.sr = sr
  device : s.dev = d
  history : s.history.map Event.sent = sent

section
variable {i : Instr} {p q : Phase} {sr : Byte} {d : Device} {sent : List Event} {s t : State} {P : State → Prop}

/-! One rule a primitive (R20), and one for the register updates after it (R51). -/

theorem Underway.move (h : Underway i p sr d sent s) (ht : t = { s with
    cur := t.cur, rem := t.rem, nb := t.nb, cnt := t.cnt, t0 := t.t0, el := t.el, rdata := t.rdata, b := t.b
    seq := t.seq, result := t.result }) (hq : t.seq = q) : Underway i q sr d sent t := by
  rw [ht] at hq ⊢
  exact ⟨h.rst, h.ack, h.latched, hq, h.status, h.device, h.history⟩

theorem Underway.asserted (h : Underway i p sr d sent s) :
    Underway i p sr d.select (.cs false :: sent) (csAssert s) :=
  ⟨h.rst, h.ack, h.latched, h.phase, h.status, congrArg Device.select h.device, congrArg _ h.history⟩

theorem Underway.deasserted (h : Underway i p sr d sent s) :
    Underway i p sr d.deselect (.cs true :: sent) (csDeassert s) :=
  ⟨h.rst, h.ack, h.latched, h.phase, h.status, congrArg Device.deselect h.device, congrArg _ h.history⟩

theorem Underway.sampled (h : Underway i p sr d sent s) : Underway i p sr d (.time 0#32 :: sent) (sampleTime s) :=
  ⟨by simp [h.rst], by simp [h.ack], by simp [h.latched], by simp [h.phase], by simp [h.status], by simp [h.device],
    by simp [h.history, Event.sent]⟩

theorem Underway.exchanged (h : Underway i p sr d sent s) {v m : Byte} {e : Device} (hm : d.mode = .reference)
    (hsel : d.sel = true) (hr : d.receive v = (.byte m, e)) :
    (deviceByte v s).1 = m ∧
      Underway i p sr e (.xfer8 v 0#8 :: sent) ((deviceByte v s).2.emit (.xfer8 v (deviceByte v s).1)) := by
  obtain ⟨hrst, hack, hlatched, hphase, hstatus, rfl, hhistory⟩ := h
  rw [deviceByte_of_receive hm hsel hr]
  exact ⟨rfl, hrst, hack, hlatched, hphase, hstatus, rfl, congrArg _ hhistory⟩

theorem Underway.instructed (h : Underway i p sr d.select sent s) {cmd : Byte} (hm : d.mode = .reference)
    (hk : deviceKnows cmd = true) :
    Underway i p sr (d.afterInstruction cmd) (.xfer8 cmd 0#8 :: sent)
      ((deviceByte cmd s).2.emit (.xfer8 cmd (deviceByte cmd s).1)) := by
  have hopen := Device.select_of_reference hm
  obtain ⟨-, hx⟩ := h.exchanged (by rw [hopen]; exact hm) (by rw [hopen]) (Device.receive_select hm hk)
  exact hx

theorem Underway.exchangedWord (h : Underway i p sr d sent s) {w : Half} {e : Device}
    (hd : (deviceHalf w s).2 = { s with dev := e }) :
    Underway i p sr e (.xfer16 w 0#16 :: sent) ((deviceHalf w s).2.emit (.xfer16 w (deviceHalf w s).1)) := by
  rw [hd]
  exact ⟨h.rst, h.ack, h.latched, h.phase, h.status, rfl, congrArg _ h.history⟩

/-- At a phase of its own the command performs the step (R50, R51). -/
theorem Underway.performs (h : Underway i p sr d sent s) (ho : owns i p = true) (he : exec i s = .next t)
    (ht : P t) : Reaches 1 s P := by
  obtain ⟨hidle, hbare⟩ := not_idle_not_bare_of_owns ho
  exact .of_step ((step_exec h.rst (h.phase ▸ hidle) (h.phase ▸ hbare) h.latched).trans he) ht

/-! POLL() of a device with no write cycle in flight: one status read (R87, R150). -/

/-- A step of POLL(). -/
theorem Underway.polled (h : Underway i p sr d sent s) (hi : polls i = true) (hp : isPollPhase p = true)
    (he : poll (afterPoll i) s = .next t) (ht : P t) : Reaches 1 s P :=
  .of_step ((step_poll h.rst h.latched hi (h.phase ▸ hp)).trans he) ht

theorem Underway.step_pT0 (h : Underway i .pT0 sr d sent s) (hi : polls i = true) :
    Reaches 1 s (Underway i .pCsl sr d (.time 0#32 :: sent)) :=
  h.polled hi rfl (poll_next.2 (.inl ⟨h.phase, rfl⟩)) (h.sampled.move rfl rfl)

theorem Underway.step_pCsl (h : Underway i .pCsl sr d sent s) (hi : polls i = true) :
    Reaches 1 s (Underway i .pCmd sr d.select (.cs false :: sent)) :=
  h.polled hi rfl (poll_next.2 (.inr (.inl ⟨h.phase, rfl⟩))) (h.asserted.move rfl rfl)

theorem Underway.step_pCmd (h : Underway i .pCmd sr d.select sent s) (hi : polls i = true) (hm : d.mode = .reference) :
    Reaches 1 s (Underway i .pSr sr (d.afterInstruction Config.opRdsr) (.xfer8 0x05#8 0#8 :: sent)) :=
  h.polled hi rfl (poll_next.2 (.inr (.inr (.inl ⟨h.phase, h.ack, rfl⟩))))
    ((h.instructed hm (by decide)).move rfl rfl)

theorem Underway.step_pSr (h : Underway i .pSr sr (d.afterInstruction Config.opRdsr) sent s) (hi : polls i = true)
    (hm : d.mode = .reference) (hw : d.wip = false) :
    Reaches 1 s (Underway i .pTime d.statusByte { d.afterInstruction Config.opRdsr with pos := 2 }
      (.xfer8 0x00#8 0#8 :: sent)) := by
  obtain ⟨hanswer, hx⟩ := h.exchanged (by exact hm) rfl (Device.receive_idleStatus hw Config.dummyByte)
  exact h.polled hi rfl (poll_next.2 (.inr (.inr (.inr (.inl ⟨h.phase, h.ack, rfl⟩)))))
    ⟨hx.rst, hx.ack, hx.latched, rfl, hanswer, hx.device, hx.history⟩

theorem Underway.step_pTime (h : Underway i .pTime sr d sent s) (hi : polls i = true) (hw : wipSet sr = false) :
    Reaches 1 s (Underway i .pCsh sr d (.time 0#32 :: sent)) :=
  h.polled hi rfl (poll_next.2 (.inr (.inr (.inr (.inr (.inl ⟨h.phase, rfl⟩))))))
    (h.sampled.move rfl (by simp [pollContinues, h.status, hw]))

theorem Underway.step_pCsh (h : Underway i .pCsh sr d sent s) (hi : polls i = true) (hw : wipSet sr = false)
    (hafter : ∀ u, afterPoll i u = u.goto q) : Reaches 1 s (Underway i q sr d.deselect (.cs true :: sent)) := by
  refine h.polled hi rfl
    (poll_next.2 (.inr (.inr (.inr (.inr (.inr (.inr ⟨h.phase, h.status ▸ hw, rfl⟩))))))) ?_
  rw [hafter]
  exact h.deasserted.move rfl rfl

/-- The events of a poll with one status read (R150), newest first. -/
def onePoll : List Event :=
  [.cs true, .time 0#32, .xfer8 0x00#8 0#8, .xfer8 0x05#8 0#8, .cs false, .time 0#32]

theorem Underway.run_poll (h : Underway i .pT0 sr d sent s) (hi : polls i = true) (hm : d.mode = .reference)
    (hw : d.wip = false) (hafter : ∀ u, afterPoll i u = u.goto q) :
    Reaches 6 s (Underway i q d.statusByte d.closed (onePoll ++ sent)) := by
  have hwip : wipSet d.statusByte = false := by rw [wipSet_statusByte, hw]
  have hclose : ({ d.afterInstruction Config.opRdsr with pos := 2 } : Device).deselect = d.closed :=
    Device.deselect_read (by exact hm) rfl (.inl rfl)
  rw [← hclose]
  exact (h.step_pT0 hi).andThen fun _ h => (h.step_pCsl hi).andThen fun _ h => (h.step_pCmd hi hm).andThen fun _ h =>
    (h.step_pSr hi hm hw).andThen fun _ h => (h.step_pTime hi hwip).andThen fun _ h => h.step_pCsh hi hwip hafter

/-! WREN_SEQ() (R88, R170). -/

/-- A step of WREN_SEQ(). -/
theorem Underway.enabled (h : Underway i p sr d sent s) (hi : writes i = true) (hp : isWrenPhase p = true)
    (he : wrenSeq s = .next t) (ht : P t) : Reaches 1 s P := by
  refine h.performs ?_ ((exec_wrenPhase hi (h.phase ▸ hp)).trans he) ht
  cases i with
  | writeByte | writeArray => simp [owns, hp]
  | _ => simp [writes] at hi

theorem Underway.step_eCsl (h : Underway i .eCsl sr d sent s) (hi : writes i = true) :
    Reaches 1 s (Underway i .eCmd sr d.select (.cs false :: sent)) :=
  h.enabled hi rfl (wrenSeq_next.2 (.inl ⟨h.phase, rfl⟩)) (h.asserted.move rfl rfl)

theorem Underway.step_eCmd (h : Underway i .eCmd sr d.select sent s) (hi : writes i = true) (hm : d.mode = .reference) :
    Reaches 1 s (Underway i .eCsh sr (d.afterInstruction Config.opWren) (.xfer8 0x06#8 0#8 :: sent)) :=
  h.enabled hi rfl (wrenSeq_next.2 (.inr (.inl ⟨h.phase, h.ack, rfl⟩)))
    ((h.instructed hm (by decide)).move rfl rfl)

theorem Underway.step_eCsh (h : Underway i .eCsh sr d sent s) (hi : writes i = true) :
    Reaches 1 s (Underway i .fCsl sr d.deselect (.cs true :: sent)) :=
  h.enabled hi rfl (wrenSeq_next.2 (.inr (.inr ⟨h.phase, rfl⟩))) (h.deasserted.move rfl rfl)

theorem Underway.run_wren (h : Underway i .eCsl sr d sent s) (hi : writes i = true) (hm : d.mode = .reference) :
    Reaches 3 s (Underway i .fCsl sr { d.closed with wel := true }
      ([.cs true, .xfer8 0x06#8 0#8, .cs false] ++ sent)) := by
  have hclose : (d.afterInstruction Config.opWren).deselect = { d.closed with wel := true } :=
    Device.deselect_wren (by exact hm) rfl rfl rfl
  rw [← hclose]
  exact (h.step_eCsl hi).andThen fun _ h => (h.step_eCmd hi hm).andThen fun _ h => h.step_eCsh hi

/-! CS_ASSERT() and FRAME() (R78, R110). -/

/-- A step of the frame. -/
theorem Underway.framed (h : Underway i p sr d sent s) (hi : (writes i || reads i) = true)
    (hp : isFramePhase p = true) (he : frame (frameCmdOf i) (frameAddrOf i s) (afterFrame i) s = .next t)
    (ht : P t) : Reaches 1 s P := by
  refine h.performs ?_ ((exec_framePhase hi (h.phase ▸ hp)).trans he) ht
  cases i with
  | writeByte | readByte | writeArray | readArray => simp [owns, hp]
  | _ => simp [writes, reads] at hi

theorem frameCmdOf_cases (i : Instr) : frameCmdOf i = Config.opRead ∨ frameCmdOf i = Config.opWrite := by
  cases i <;> simp [frameCmdOf]

theorem Underway.step_fCsl (h : Underway i .fCsl sr d sent s) (hi : (writes i || reads i) = true) :
    Reaches 1 s (Underway i .fW1 sr d.select (.cs false :: sent)) :=
  h.framed hi rfl (frame_next.2 (.inl ⟨h.phase, rfl⟩)) (h.asserted.move rfl rfl)

theorem Underway.step_fW1 {a : Addr} (h : Underway i .fW1 sr d.select sent s) (hi : (writes i || reads i) = true)
    (ha : frameAddrOf i s = a) (hm : d.mode = .reference) :
    Reaches 1 s (Underway i .fW2 sr (d.afterFirstWord (frameCmdOf i) a)
      (.xfer16 (frameW1 (frameCmdOf i) a) 0#16 :: sent)) := by
  subst ha
  exact h.framed hi rfl (frame_next.2 (.inr (.inl ⟨h.phase, h.ack, rfl⟩)))
    ((h.exchangedWord (deviceHalf_frameW1 h.device hm (frameCmdOf_cases i) _)).move rfl rfl)

theorem Underway.step_fW2 {a : Addr} (h : Underway i .fW2 sr (d.afterFirstWord (frameCmdOf i) a) sent s)
    (hi : (writes i || reads i) = true) (ha : frameAddrOf i s = a) (hm : d.mode = .reference)
    (hP : ∀ u, Underway i .fW2 sr (d.afterAddress (frameCmdOf i) a) (.xfer16 (frameW2 a) 0#16 :: sent) u →
      P (afterFrame i u)) : Reaches 1 s P := by
  subst ha
  exact h.framed hi rfl (frame_next.2 (.inr (.inr ⟨h.phase, h.ack, rfl⟩)))
    (hP _ (h.exchangedWord (deviceHalf_frameW2 h.device hm (frameCmdOf_cases i))))

/-- The frame, for a command that names its address itself. -/
theorem Underway.run_frame {a : Addr} (h : Underway i .fCsl sr d sent s) (hi : (writes i || reads i) = true)
    (ha : ∀ u, frameAddrOf i u = a) (hm : d.mode = .reference)
    (hP : ∀ u, Underway i .fW2 sr (d.afterAddress (frameCmdOf i) a)
      ([.xfer16 (frameW2 a) 0#16, .xfer16 (frameW1 (frameCmdOf i) a) 0#16, .cs false] ++ sent) u →
      P (afterFrame i u)) : Reaches 3 s P :=
  (h.step_fCsl hi).andThen fun _ h => (h.step_fW1 hi (ha _) hm).andThen fun _ h => h.step_fW2 hi (ha _) hm hP

/-! ACCEPT, and the end of an access with RESP (R235, R240, R241). -/

/-- A polling command within its bounds starts (R51, R235). -/
theorem Underway.step_accept (h : Underway i .accept sr d sent s) (hi : polls i = true) (hinit : s.init = true)
    (hb : instrOutOfBounds i = false) (hgo : ∀ u, dispatchOf i u = u.goto .pT0) :
    Reaches 1 s (Underway i .pT0 sr d sent) := by
  refine .of_step ((step_exec h.rst (by simp [h.phase]) (by simp [h.phase, isBare]) h.latched).trans
    (acceptPhase_of_polls (outOfBounds := False) hi (by simp [hb]) s h.phase hinit fun _ => id)) ?_
  rw [hgo]
  exact h.move rfl rfl

/-- What an operation that ends well leaves: IDLE, chip-select high, and its response (R130, R240, R241). -/
structure EndedOk (sr : Byte) (cnt : BitVec 24) (d : Device) (sent : List Event) (t : State) : Prop where
  idle : t.seq = .idle
  csHigh : t.csN = true
  valid : t.respValid = true
  word : t.resp = respWord sr cnt t.rdata .ok
  device : t.dev = d
  history : t.history.map Event.sent = .resp t.resp :: sent

/-- F_CSH and RESP (R51, R241). -/
theorem Underway.run_close (h : Underway i .fCsh sr d sent s) (hi : (writes i || reads i) = true)
    (hafter : ∀ u, afterClose i u = finish u) :
    Reaches 2 s (fun t => t.rdata = s.rdata ∧ EndedOk sr s.cnt d.deselect (.cs true :: sent) t) := by
  have hclose : Reaches 1 s (fun t => t = finish (csDeassert s)) := by
    refine h.performs ?_ (exec_close hi h.phase) (hafter _)
    cases i with
    | writeByte | readByte | writeArray | readArray => rfl
    | _ => simp [writes, reads] at hi
  refine hclose.andThen fun t ht => ?_
  subst ht
  have hend : Underway i .resp sr d.deselect (.cs true :: sent) (finish (csDeassert s)) := h.deasserted.move rfl rfl
  refine .of_step (step_resp hend.rst hend.phase) ⟨rfl, rfl, rfl, rfl, ?_, hend.device, ?_⟩
  · rw [← hend.status]
    rfl
  · rw [← hend.history]
    rfl

/-- The fields of the response of an operation that ended well (R130, R131). -/
theorem EndedOk.fields {cnt : BitVec 24} (h : EndedOk sr cnt d sent t) :
    respResult t.resp = 0x0#4 ∧ respBytesDone t.resp = cnt ∧ respLastSr t.resp = sr ∧
      respRdata t.resp = t.rdata := by
  obtain ⟨hresult, hdone, hsr, hrdata, -⟩ := respWord_fields sr cnt t.rdata .ok
  rw [h.word]
  exact ⟨hresult, hdone, hsr, hrdata⟩

end

/-! The data byte of each command (R180, R185). -/

section
variable {a : Addr} {v sr : Byte} {d : Device} {sent : List Event} {s : State}

/-- The frame of WRITE_BYTE, whose data byte then waits in `b` (R51, R180). -/
theorem Underway.run_writeFrame (h : Underway (.writeByte a v) .fCsl sr d sent s) (hm : d.mode = .reference) :
    Reaches 3 s (fun t => t.b = v ∧ Underway (.writeByte a v) .dTx sr (d.afterAddress Config.opWrite a)
      ([.xfer16 (frameW2 a) 0#16, .xfer16 (frameW1 Config.opWrite a) 0#16, .cs false] ++ sent) t) :=
  h.run_frame rfl (fun _ => rfl) hm fun _ h => ⟨rfl, h.move rfl rfl⟩

/-- The frame of READ_BYTE (R185). -/
theorem Underway.run_readFrame (h : Underway (.readByte a) .fCsl sr d sent s) (hm : d.mode = .reference) :
    Reaches 3 s (Underway (.readByte a) .dRx sr (d.afterAddress Config.opRead a)
      ([.xfer16 (frameW2 a) 0#16, .xfer16 (frameW1 Config.opRead a) 0#16, .cs false] ++ sent)) :=
  h.run_frame rfl (fun _ => rfl) hm fun _ h => h.move rfl rfl

/-- D_TX: the device keeps the byte (R90). -/
theorem Underway.step_dTx (h : Underway (.writeByte a v) .dTx sr (d.afterAddress Config.opWrite a) sent s)
    (hb : s.b = v) (hm : d.mode = .reference) :
    Reaches 1 s (fun t => t.cnt = 1#24 ∧
      Underway (.writeByte a v) .fCsh sr { d.afterAddress Config.opWrite a with data := [v], pos := 5 }
        (.xfer8 v 0#8 :: sent) t) := by
  subst hb
  obtain ⟨-, hx⟩ := h.exchanged (by exact hm) rfl (Device.receive_writeData rfl (le_refl 4) s.b)
  exact h.performs rfl ((exec_writeByte_dTx h.phase).trans (x8_next.2 ⟨h.ack, rfl⟩)) ⟨rfl, hx.move rfl rfl⟩

/-- D_RX: the device answers the array's byte (R89). -/
theorem Underway.step_dRx (h : Underway (.readByte a) .dRx sr (d.afterAddress Config.opRead a) sent s)
    (hm : d.mode = .reference) (hw : d.wip = false) (ha : a.toNat < Config.capacity) :
    Reaches 1 s (fun t => (t.cnt = 1#24 ∧ t.rdata = d.mem.read a.toNat) ∧
      Underway (.readByte a) .fCsh sr { d.afterAddress Config.opRead a with pos := 5 }
        (.xfer8 0x00#8 0#8 :: sent) t) := by
  have hanswer : (d.afterAddress Config.opRead a).readAnswer 0 = .byte (d.mem.read a.toNat) := by
    rw [Device.readAnswer, if_neg (by simp [Device.afterAddress, hw]), if_pos (by exact ha)]
    rfl
  have hreceive := Device.receive_readData (d := d.afterAddress Config.opRead a) rfl (le_refl 4) Config.dummyByte
  obtain ⟨hbyte, hx⟩ := h.exchanged (by exact hm) rfl (hreceive.trans (congrArg (·, _) hanswer))
  exact h.performs rfl ((exec_readByte_dRx h.phase).trans (x8_next.2 ⟨h.ack, rfl⟩))
    ⟨⟨rfl, hbyte⟩, hx.move rfl rfl⟩

end

/-- The word of R120's format A with OP 2 is WRITE_BYTE's (R125, R180). -/
theorem decode_writeByte_of_cw {s : State} {a : Addr} {v : Byte} (hw : s.cw = 0#8 ++ (0#16 ++ v) ++ a ++ 0#4 ++ 0x2#4) :
    decode (.host s.cw) = .ok (.writeByte a v) := by
  rw [hw]
  exact decodeHost_writeByte a v

/-- The word of R120's format A with OP 3 is READ_BYTE's (R125, R185). -/
theorem decode_readByte_of_cw {s : State} {a : Addr} (hw : s.cw = 0#8 ++ 0#24 ++ a ++ 0#4 ++ 0x3#4) :
    decode (.host s.cw) = .ok (.readByte a) := by
  rw [hw]
  exact decodeHost_readByte a

/-- Cs(1) of an enabled one-byte WRITE inside the array starts its write cycle (R90). -/
theorem Device.deselect_oneByte {d : Device} {a : Addr} {v : Byte} (hm : d.mode = .reference) (hw : d.wip = false)
    (hl : d.wel = true) (ha : a.toNat < Config.capacity) :
    ({ d.afterAddress Config.opWrite a with data := [v], pos := 5 } : Device).deselect =
      { d.closed with pend := [(a.toNat, v)], wip := true, k := d.w } := by
  refine (Device.deselect_write (by exact hm) rfl rfl).trans (Device.endWrite_starts hw hl (by simp) ha ?_)
  have := Nat.mod_lt a.toNat (show 0 < Config.pageSize by decide)
  exact this

/-- An address in the array passes the bounds check of a byte command (R236). -/
theorem byteOutOfBounds_eq_false {a : Addr} (ha : a.toNat < Config.capacity) : byteOutOfBounds a = false :=
  decide_eq_false (Nat.not_le.2 ha)

section
variable {a : Addr} {v sr : Byte} {d : Device} {sent : List Event} {s : State}

/-- A whole WRITE_BYTE to a device with no write cycle in flight (R180). -/
theorem Underway.run_writeByte (h : Underway (.writeByte a v) .accept sr d sent s) (hinit : s.init = true)
    (hm : d.mode = .reference) (hw : d.wip = false) (ha : a.toNat < Config.capacity) :
    Reaches 16 s (EndedOk d.statusByte 1#24
      { d.closed with wel := true, wip := true, pend := [(a.toNat, v)], k := d.w }
      ([.cs true, .xfer8 v 0#8, .xfer16 (frameW2 a) 0#16, .xfer16 (frameW1 Config.opWrite a) 0#16, .cs false,
        .cs true, .xfer8 0x06#8 0#8, .cs false] ++ onePoll ++ sent)) := by
  refine (h.step_accept rfl hinit (byteOutOfBounds_eq_false ha) fun _ => rfl).andThen fun _ h =>
    (h.run_poll rfl hm hw fun _ => rfl).andThen fun _ h => (h.run_wren rfl hm).andThen fun _ h =>
    (h.run_writeFrame hm).andThen fun _ ⟨hb, h⟩ => (h.step_dTx hb hm).andThen fun _ ⟨hcnt, h⟩ =>
    (h.run_close rfl fun _ => rfl).mono fun _ ⟨_, hend⟩ => ?_
  rwa [Device.deselect_oneByte (by exact hm) (by exact hw) rfl ha, hcnt] at hend

/-- A whole READ_BYTE of a device with no write cycle in flight (R185). -/
theorem Underway.run_readByte (h : Underway (.readByte a) .accept sr d sent s) (hinit : s.init = true)
    (hm : d.mode = .reference) (hw : d.wip = false) (ha : a.toNat < Config.capacity) :
    Reaches 13 s (fun t => t.rdata = d.mem.read a.toNat ∧ EndedOk d.statusByte 1#24 d.closed
      ([.cs true, .xfer8 0x00#8 0#8, .xfer16 (frameW2 a) 0#16, .xfer16 (frameW1 Config.opRead a) 0#16, .cs false]
        ++ onePoll ++ sent) t) := by
  have hclose : ({ d.closed.afterAddress Config.opRead a with pos := 5 } : Device).deselect = d.closed :=
    Device.deselect_read (by exact hm) rfl (.inr rfl)
  refine (h.step_accept rfl hinit (byteOutOfBounds_eq_false ha) fun _ => rfl).andThen fun _ h =>
    (h.run_poll rfl hm hw fun _ => rfl).andThen fun _ h => (h.run_readFrame hm).andThen fun _ h =>
    (h.step_dRx hm hw ha).andThen fun _ ⟨⟨hcnt, hbyte⟩, h⟩ =>
    (h.run_close rfl fun _ => rfl).mono fun _ ⟨hrdata, hend⟩ => ⟨hrdata.trans hbyte, ?_⟩
  rwa [hclose, hcnt] at hend

end

/-- Settles O33: the poll, WREN, the frame and the byte, then the response. -/
theorem writeByteRunStartsTheWriteCycle : Obligations.WriteByteRunStartsTheWriteCycle := by
  intro s a v hr hs hcw hinit hack hm hw ha
  have h : Underway (.writeByte a v) .accept s.sr s.dev (s.history.map Event.sent) s :=
    ⟨hr, hack, decode_writeByte_of_cw hcw, hs, rfl, rfl, rfl⟩
  obtain ⟨t, hrun, hend⟩ := h.run_writeByte hinit hm hw ha
  obtain ⟨hresult, hdone, hsr, -⟩ := hend.fields
  exact ⟨t, hrun, hend.idle, hend.csHigh, hend.valid, hresult, hdone, hsr, hend.device, hend.history⟩

/-- Settles O34: the poll, the frame and the byte, then the response. -/
theorem readByteRunReturnsTheDeviceByte : Obligations.ReadByteRunReturnsTheDeviceByte := by
  intro s a hr hs hcw hinit hack hm hw ha
  have h : Underway (.readByte a) .accept s.sr s.dev (s.history.map Event.sent) s :=
    ⟨hr, hack, decode_readByte_of_cw hcw, hs, rfl, rfl, rfl⟩
  obtain ⟨t, hrun, hbyte, hend⟩ := h.run_readByte hinit hm hw ha
  obtain ⟨hresult, hdone, -, hrdata⟩ := hend.fields
  exact ⟨t, hrun, hend.idle, hend.csHigh, hend.valid, hresult, hdone, hrdata.trans hbyte, hbyte, hend.device,
    hend.history⟩

end Sys2Proof.Machine
end

section
/-! SUPPORT. WRITE_ARRAY and READ_ARRAY at each of their phases, and A_NEXT (R200 to R203, R208, R210): O35, O36, O37,
O40. -/

open Sys2Proof.Claims

namespace Sys2Proof.Machine

section
variable {a : Addr} {n : Len} {s t : State}

/-! One equation a data phase (R51), and A_NEXT's. -/

theorem exec_writeArray_dPop (hs : s.seq = .dPop) : exec (.writeArray a n) s = popToSend s := by
  simp only [exec, execWriteArray, hs]

theorem exec_writeArray_dTx (hs : s.seq = .dTx) : exec (.writeArray a n) s = sendArrayByte s := by
  simp only [exec, execWriteArray, hs]

theorem exec_writeArray_aNext (hs : s.seq = .aNext) : exec (.writeArray a n) s = .next (pageAdvance s) := by
  simp only [exec, execWriteArray, hs]

theorem exec_readArray_dRx (hs : s.seq = .dRx) : exec (.readArray a n) s = receiveArrayByte s := by
  simp only [exec, execReadArray, hs]

theorem exec_readArray_dPush (hs : s.seq = .dPush) : exec (.readArray a n) s = pushReceived s := by
  simp only [exec, execReadArray, hs]

/-- The bounds check of READ_ARRAY (R236). -/
theorem readArrayOutOfBounds_iff :
    readArrayOutOfBounds a n = true ↔ Config.capacity ≤ a.toNat ∨ Config.capacity < a.toNat + n.toNat := by
  simp only [readArrayOutOfBounds, Bool.or_eq_true, decide_eq_true_iff]

/-- The length of a burst as a number (R203). -/
theorem burstLength_toNat (cur : BitVec 25) (rem : Len) :
    (burstLength cur rem).toNat = min (512 - cur.toNat % 512) rem.toNat := by
  simp only [burstLength, offset, Config.pageSize, BitVec.toNat_ofNat]
  omega

/-- WRITE_ARRAY goes to A_NEXT from ACCEPT and from F_CSH, and nothing else does (R51, R203). -/
theorem EngineStep.toPageAdvance (h : EngineStep s t) (ht : t.seq = .aNext) :
    (s.seq = .accept ∨ s.seq = .fCsh) ∧ ∃ a n, decode (.host s.cw) = .ok (.writeArray a n) := by
  cases h with
  | start _ hs i hd =>
    rcases dispatchOf_cases i s with hgo | ⟨a, n, rfl, -⟩ | ⟨a, n, -, hgo⟩
    · simp [hgo] at ht
    · exact ⟨.inl hs, a, n, hd⟩
    · simp [hgo] at ht
  | close _ hs i hd =>
    rcases afterClose_cases i (csDeassert s) with ⟨a, n, rfl, -⟩ | ⟨-, hgo⟩
    · exact ⟨.inr hs, a, n, hd⟩
    · simp [hgo] at ht
  | pollReady _ _ i => rcases afterPoll_seq i (csDeassert s) with ⟨hgo, -⟩ | hgo | hgo <;> simp [hgo] at ht
  | frameSecond _ _ i => rcases afterFrame_seq i _ with hgo | hgo | hgo | hgo <;> rw [hgo] at ht <;> cases ht
  | pageAdvance => rcases pageAdvance_seq s with ⟨hgo, -⟩ | hgo <;> simp [hgo] at ht
  | pollTime | sendArrayByte | push => simp only at ht; split at ht <;> cases ht
  | _ => simp at ht

/-- ACCEPT of a polling command that R235 lets pass (R51). -/
theorem step_dispatch {i : Instr} (hr : s.env.rst = 0) (hd : decode (.host s.cw) = .ok i) (hi : polls i = true)
    (hs : s.seq = .accept) (hinit : s.init = true) (hb : s.params.boundsCheck = true → ¬instrOutOfBounds i = true) :
    step s = .next (dispatchOf i s) :=
  (step_exec hr (by simp [hs]) (by simp [hs, isBare]) hd).trans (acceptPhase_of_polls hi id s hs hinit hb)

/-- The step of A_NEXT (R203). -/
theorem step_aNext (hr : s.env.rst = 0) (hd : decode (.host s.cw) = .ok (.writeArray a n)) (hs : s.seq = .aNext) :
    step s = .next (pageAdvance s) :=
  (step_exec hr (by simp [hs]) (by simp [hs, isBare]) hd).trans (exec_writeArray_aNext hs)

/-- A_NEXT with nothing left (R203). -/
theorem pageAdvance_done (hrem : s.rem = 0#24) : pageAdvance s = finish s := if_pos hrem

/-- A_NEXT before a page the device does not have (R203). -/
theorem pageAdvance_outOfRange (hrem : s.rem ≠ 0#24) (hpage : Config.numPages ≤ page s.cur.toNat) :
    pageAdvance s = raise .outOfRange s := by
  rw [pageAdvance, if_neg hrem, if_pos hpage]

/-- A_NEXT before a page the device has (R203). -/
theorem pageAdvance_burst (hrem : s.rem ≠ 0#24) (hpage : page s.cur.toNat < Config.numPages) :
    pageAdvance s = { s with nb := burstLength s.cur s.rem, seq := .pT0 } := by
  rw [pageAdvance, if_neg hrem, if_neg (Nat.not_le.2 hpage)]

/-- The word of R120's format A with OP 4 is WRITE_ARRAY's (R125, R200). -/
theorem decode_writeArray_of_cw (hw : s.cw = 0#8 ++ n ++ a ++ 0#4 ++ 0x4#4) :
    decode (.host s.cw) = .ok (.writeArray a n) := by
  rw [hw]
  exact decodeHost_writeArray a n

/-- The word of R120's format A with OP 5 is READ_ARRAY's (R125, R210). -/
theorem decode_readArray_of_cw (hw : s.cw = 0#8 ++ n ++ a ++ 0#4 ++ 0x5#4) :
    decode (.host s.cw) = .ok (.readArray a n) := by
  rw [hw]
  exact decodeHost_readArray a n

end

/-- Settles O35: ACCEPT, the poll, WREN, the frame, the data bytes, the close and the response. -/
theorem writeArrayPerformsItsPhases : Obligations.WriteArrayPerformsItsPhases := by
  refine fun a n s => ⟨acceptPhase_of_polls (i := .writeArray a n) rfl (by simp [instrOutOfBounds]) s,
    pollPhases_of_poll (exec_pollPhase rfl), wrenPhases_of_wrenSeq (exec_wrenPhase rfl),
    framePhases_of_frame (exec_framePhase rfl), fun v rest hs hpin => ?_, fun hs ha => ?_, exec_close rfl,
    fun hs => exec_resp hs (.inl rfl)⟩
  · rw [exec_writeArray_dPop hs]
    exact popByte_next.2 ⟨v, rest, hpin, rfl⟩
  · rw [exec_writeArray_dTx hs]
    exact x8_of_ack ha

/-- Settles O40: ACCEPT, the poll, the frame, the data bytes, the close and the response. -/
theorem readArrayPerformsItsPhases : Obligations.ReadArrayPerformsItsPhases := by
  refine fun a n s => ⟨acceptPhase_of_polls (i := .readArray a n) rfl readArrayOutOfBounds_iff.1 s,
    pollPhases_of_poll (exec_pollPhase rfl), framePhases_of_frame (exec_framePhase rfl), fun hs ha => ?_,
    fun hs ha => ?_, exec_close rfl, fun hs => exec_resp hs (.inl rfl)⟩
  · rw [exec_readArray_dRx hs]
    exact x8_of_ack ha
  · rw [exec_readArray_dPush hs]
    exact pushByte_next.2 ⟨ha, rfl⟩

/-- Settles O36: the three outcomes of A_NEXT, then its two entries, by the cases of a step. -/
theorem pageAdvanceOutcomes : Obligations.PageAdvanceOutcomes := by
  refine ⟨fun a n s hs => ?_, fun s t h => (step_engineStep h).toPageAdvance, fun a n s t h hs => ?_⟩
  · rw [exec_writeArray_aNext hs]
    refine ⟨fun hrem => ?_, fun hrem hpage => ?_, fun hrem hpage => ?_⟩
    · exact congrArg _ (pageAdvance_done hrem)
    · exact congrArg _ (pageAdvance_outOfRange hrem hpage)
    · obtain ⟨hpos, -, hin, -⟩ := burstLength_spec (cur := s.cur) hrem
      refine ⟨_, congrArg _ (pageAdvance_burst hrem hpage), rfl, burstLength_toNat s.cur s.rem, hpos, ?_⟩
      exact (Nat.le_add_left _ _).trans hin
  · rw [exec_close rfl hs] at h
    rw [next_eq_iff.1 h]
    rfl

/-- Settles O37: ACCEPT, A_NEXT with nothing left, and RESP. -/
theorem emptyWriteArrayDoesNothing : Obligations.EmptyWriteArrayDoesNothing := by
  intro a s hr hs hinit hcnt hw
  have hd := decode_writeArray_of_cw hw
  have haccept : step s = .next { s with cur := a.setWidth 25, rem := 0#24, seq := .aNext } :=
    step_dispatch hr hd rfl hs hinit (by simp [instrOutOfBounds])
  have hdone : step { s with cur := a.setWidth 25, rem := 0#24, seq := .aNext } =
      .next { s with cur := a.setWidth 25, rem := 0#24, result := .ok, seq := .resp } :=
    (step_aNext (by exact hr) (by exact hd) rfl).trans (congrArg _ (pageAdvance_done rfl))
  have hrun : Sys2Proof.core.run 3 s =
      .next (respond { s with cur := a.setWidth 25, rem := 0#24, result := .ok, seq := .resp }) :=
    (run_succ_of_step 2 haccept).trans ((run_succ_of_step 1 hdone).trans
      (run_succ_of_step 0 (step_resp (by exact hr) rfl)))
  obtain ⟨hresult, hbytes, -⟩ := respWord_fields s.sr s.cnt (rdataOrZero .ok s.rdata) .ok
  exact ⟨_, hrun, rfl, rfl, hresult, hbytes.trans hcnt, rfl, rfl, rfl⟩

end Sys2Proof.Machine
end

section
/-! SUPPORT. What WRITE_ARRAY and READ_ARRAY leave unchanged (R200, R210): O48. -/

open Sys2Proof.Claims

namespace Sys2Proof.Machine

/-- What a step of WRITE_ARRAY or READ_ARRAY keeps (R200, R210). -/
structure ArrayKeeps (s t : State) : Prop where
  configuration : SameConfiguration s t
  response : SameResponseButInResp s t
  rdata : t.rdata = s.rdata
  pollRegisters : isPollPhase s.seq = false → SamePollRegisters s t
  bytes : SameDeviceBytes s t

theorem ByteKeeps.arrayKeeps {s t : State} (h : ByteKeeps s t) (hrdata : t.rdata = s.rdata) : ArrayKeeps s t :=
  ⟨h.configuration, h.response, hrdata, h.pollRegisters, h.bytes⟩

theorem AccessKeeps.arrayKeeps {s t : State} (h : AccessKeeps s t) (hrdata : t.rdata = s.rdata) : ArrayKeeps s t :=
  ⟨h.configuration, fun _ => ⟨h.resp, h.respValid⟩, hrdata, fun _ => h.pollRegisters, h.bytes⟩

/-- A move that writes at most the cursor, the counts, the outcome and the phase: ACCEPT's and A_NEXT's (R202, R203,
R235). -/
theorem arrayKeeps_of_move {s t : State} (ht : t = { s with
    cur := t.cur, rem := t.rem, nb := t.nb, result := t.result, seq := t.seq }) : ArrayKeeps s t := by
  rw [ht]
  exact ⟨by simp [SameConfiguration], fun _ => ⟨rfl, rfl⟩, rfl, fun _ => ⟨rfl, rfl, rfl⟩, sameDeviceBytes_of_mem rfl⟩

/-- What a step of WRITE_ARRAY can be (R200). -/
theorem exec_writeArray_next {a : Addr} {n : Len} {s t : State} (h : exec (.writeArray a n) s = .next t) :
    checkAndDispatch false (dispatchOf (.writeArray a n)) s = .next t ∨ t = pageAdvance s ∨
    poll (fun u => u.goto .eCsl) s = .next t ∨ wrenSeq s = .next t ∨
    frame Config.opWrite s.curAddr (fun u => u.goto .dPop) s = .next t ∨ popToSend s = .next t ∨
    sendArrayByte s = .next t ∨ t = (csDeassert s).goto .aNext ∨ (s.seq = .resp ∧ t = respond s) := by
  simp only [exec, execWriteArray] at h
  cases hs : s.seq <;> simp only [hs, next_eq_iff, reduceCtorEq] at h <;> simp [h, dispatchOf]

/-- What a step of READ_ARRAY can be (R210). -/
theorem exec_readArray_next {a : Addr} {n : Len} {s t : State} (h : exec (.readArray a n) s = .next t) :
    checkAndDispatch (readArrayOutOfBounds a n) (dispatchOf (.readArray a n)) s = .next t ∨
    poll (fun u => u.goto .fCsl) s = .next t ∨ frame Config.opRead a readOrClose s = .next t ∨
    receiveArrayByte s = .next t ∨ pushReceived s = .next t ∨ t = finish (csDeassert s) ∨
    (s.seq = .resp ∧ t = respond s) := by
  simp only [exec, execReadArray] at h
  cases hs : s.seq <;> simp only [hs, next_eq_iff, reduceCtorEq] at h <;> simp [h, dispatchOf]

/-- WRITE_ARRAY's frame condition (R200). -/
theorem exec_writeArray_keeps {a : Addr} {n : Len} {s t : State} (h : exec (.writeArray a n) s = .next t) :
    ArrayKeeps s t := by
  rcases exec_writeArray_next h with hc | rfl | hp | hw | hf | hp | hx | rfl | ⟨hs, rfl⟩
  · rcases checkAndDispatch_next.1 hc with ⟨-, rfl⟩ | ⟨-, -, rfl⟩ | ⟨-, -, rfl⟩
    all_goals exact arrayKeeps_of_move rfl
  · rw [pageAdvance_writes]
    exact arrayKeeps_of_move rfl
  · obtain ⟨hkeeps, hrdata⟩ := poll_byteKeeps hp
    exact hkeeps.arrayKeeps hrdata
  · obtain ⟨hkeeps, -, -, hrdata, -⟩ := wrenSeq_keeps hw
    exact hkeeps.arrayKeeps hrdata
  · obtain ⟨hkeeps, -, -, hrdata, -⟩ := frame_keeps (fun _ => rfl) hf
    exact hkeeps.arrayKeeps hrdata
  · obtain ⟨v, rest, -, rfl⟩ := popByte_next.1 hp
    exact ((accessKeeps_pop v rest s).move rfl).arrayKeeps rfl
  · obtain ⟨-, rfl⟩ := x8_next.1 hx
    exact ((accessKeeps_byte _ _ s).move rfl).arrayKeeps (by simp)
  · exact ((accessKeeps_csDeassert s).move rfl).arrayKeeps rfl
  · exact (respond_byteKeeps hs).arrayKeeps rfl

/-- READ_ARRAY leaves the cursor, the burst and the payload stream alone too (R210). -/
theorem exec_readArray_keeps {a : Addr} {n : Len} {s t : State} (h : exec (.readArray a n) s = .next t) :
    ArrayKeeps s t ∧ t.cur = s.cur ∧ t.nb = s.nb ∧ t.env.pin = s.env.pin := by
  rcases exec_readArray_next h with hc | hp | hf | hx | hp | rfl | ⟨hs, rfl⟩
  · rcases checkAndDispatch_next.1 hc with ⟨-, rfl⟩ | ⟨-, -, rfl⟩ | ⟨-, -, rfl⟩
    all_goals exact ⟨arrayKeeps_of_move rfl, rfl, rfl, rfl⟩
  · obtain ⟨hkeeps, hrdata⟩ := poll_byteKeeps hp
    obtain ⟨hcur, -, hnb⟩ := hkeeps.arrayRegisters
    exact ⟨hkeeps.arrayKeeps hrdata, hcur, hnb, hkeeps.pin⟩
  · obtain ⟨hkeeps, hcur, hnb, hrdata, hpin⟩ := frame_keeps (fun _ => rfl) hf
    exact ⟨hkeeps.arrayKeeps hrdata, hcur, hnb, hpin⟩
  · obtain ⟨-, rfl⟩ := x8_next.1 hx
    exact ⟨((accessKeeps_byte _ _ s).move rfl).arrayKeeps (by simp), by simp⟩
  · obtain ⟨-, rfl⟩ := pushByte_next.1 hp
    exact ⟨((accessKeeps_push _ s).move rfl).arrayKeeps (by simp), by simp⟩
  · exact ⟨(close_byteKeeps s).arrayKeeps rfl, rfl, rfl, rfl⟩
  · exact ⟨(respond_byteKeeps hs).arrayKeeps rfl, rfl, rfl, rfl⟩

/-- Settles O48, command by command. -/
theorem arrayCommandFrame : Obligations.ArrayCommandFrame := by
  refine ⟨fun a n s t h => ?_, fun a n s t h => ?_⟩
  · obtain ⟨hcfg, hresp, hrdata, hpoll, hbytes⟩ := exec_writeArray_keeps h
    exact ⟨hcfg, hresp, hrdata, hpoll, hbytes⟩
  · obtain ⟨⟨hcfg, hresp, hrdata, hpoll, hbytes⟩, hcur, hnb, hpin⟩ := exec_readArray_keeps h
    exact ⟨hcfg, hresp, hrdata, hcur, hnb, hpin, hpoll, hbytes⟩

end Sys2Proof.Machine
end

section
/-! SUPPORT. An array command on the way to its data: what its poll, its WREN and its frame keep (R150, R170, R110), for
the oracle as for the reference device. -/

namespace Sys2Proof.Machine

/-! The oracle takes no notice of chip-select, and answers an exchange with its next draw (R25). -/

theorem Device.select_of_oracle {d : Device} (ho : d.mode = .oracle) : d.select = d := by
  simp [Device.select, ho]

theorem Device.deselect_of_oracle {d : Device} (ho : d.mode = .oracle) : d.deselect = d := by
  simp [Device.deselect, ho]

theorem deviceByte_of_oracle {s : State} (ho : s.dev.mode = .oracle) (v : Byte) :
    deviceByte v s = (lowByte (drawMiso s).1, (drawMiso s).2) := by
  simp [deviceByte, ho]

theorem deviceHalf_of_oracle {s : State} (ho : s.dev.mode = .oracle) (w : Half) : deviceHalf w s = drawMiso s := by
  simp [deviceHalf, ho]

/-- A draw uses up one scripted answer, if there is one (R25; log 5). -/
theorem drawMiso_env_miso (s : State) : (drawMiso s).2.env.miso = s.env.miso.drop 1 := by
  unfold drawMiso
  split <;> simp [*]

theorem drawMiso_scripted {s : State} {m : Half} {rest : List Half} (h : s.env.miso = m :: rest) :
    (drawMiso s).1 = m := by
  simp [drawMiso, h]

/-- `t` is `s` after `j` data bytes of a WRITE_ARRAY and `k` answers of an oracle (R25, R204): the registers of the
array commands, the payload stream and the host's readiness. -/
structure Advanced (j k : Nat) (s t : State) : Prop where
  cur : t.cur = s.cur + BitVec.ofNat 25 j
  rem : t.rem = s.rem - BitVec.ofNat 24 j
  nb : t.nb = s.nb - BitVec.ofNat 10 j
  cnt : t.cnt = s.cnt + BitVec.ofNat 24 j
  pin : t.env.pin = s.env.pin.drop j
  ready : t.env.poutReady = s.env.poutReady
  answers : s.dev.mode = .oracle → t.dev.mode = .oracle ∧ t.env.miso = s.env.miso.drop k

theorem Advanced.trans {j k j' k' : Nat} {s t u : State} (h : Advanced j k s t) (h' : Advanced j' k' t u) :
    Advanced (j' + j) (k' + k) s u where
  cur := by rw [h'.cur, h.cur, BitVec.ofNat_add, add_assoc, add_comm (BitVec.ofNat 25 j)]
  rem := by rw [h'.rem, h.rem, BitVec.ofNat_add, sub_sub, add_comm (BitVec.ofNat 24 j)]
  nb := by rw [h'.nb, h.nb, BitVec.ofNat_add, sub_sub, add_comm (BitVec.ofNat 10 j)]
  cnt := by rw [h'.cnt, h.cnt, BitVec.ofNat_add, add_assoc, add_comm (BitVec.ofNat 24 j)]
  pin := by rw [h'.pin, h.pin, List.drop_drop, Nat.add_comm]
  ready := h'.ready.trans h.ready
  answers ho := by
    obtain ⟨ht, hmiso⟩ := h.answers ho
    obtain ⟨hu, hmiso'⟩ := h'.answers ht
    exact ⟨hu, by rw [hmiso', hmiso, List.drop_drop, Nat.add_comm]⟩

/-! One rule a primitive (R20), and one for the register updates after it (R51). -/

theorem advanced_refl (s : State) : Advanced 0 0 s s :=
  ⟨by simp, by simp, by simp, by simp, rfl, rfl, fun ho => ⟨ho, rfl⟩⟩

theorem advanced_csAssert (s : State) : Advanced 0 0 s (csAssert s) :=
  ⟨by simp, by simp, by simp, by simp, rfl, rfl,
    fun ho => ⟨(congrArg Device.mode (Device.select_of_oracle ho)).trans ho, rfl⟩⟩

theorem advanced_csDeassert (s : State) : Advanced 0 0 s (csDeassert s) :=
  ⟨by simp, by simp, by simp, by simp, rfl, rfl,
    fun ho => ⟨(congrArg Device.mode (Device.deselect_of_oracle ho)).trans ho, rfl⟩⟩

theorem advanced_sampleTime (s : State) : Advanced 0 0 s (sampleTime s) :=
  ⟨by simp, by simp, by simp, by simp, by simp, by simp, fun ho => by simp [ho]⟩

theorem advanced_byte (v : Byte) (e : Event) (s : State) : Advanced 0 1 s ((deviceByte v s).2.emit e) :=
  ⟨by simp, by simp, by simp, by simp, by simp, by simp,
    fun ho => by rw [deviceByte_of_oracle ho]; exact ⟨by simp [ho], drawMiso_env_miso s⟩⟩

theorem advanced_half (w : Half) (e : Event) (s : State) : Advanced 0 1 s ((deviceHalf w s).2.emit e) :=
  ⟨by simp, by simp, by simp, by simp, by simp, by simp,
    fun ho => by rw [deviceHalf_of_oracle ho]; exact ⟨by simp [ho], drawMiso_env_miso s⟩⟩

theorem Advanced.move {j k : Nat} {s u t : State} (h : Advanced j k s u) (ht : t = { u with
    sr := t.sr, t0 := t.t0, el := t.el, rdata := t.rdata, b := t.b, seq := t.seq, result := t.result }) :
    Advanced j k s t := by
  rw [ht]
  exact ⟨h.cur, h.rem, h.nb, h.cnt, h.pin, h.ready, h.answers⟩

/-- How many exchanges the step of a phase makes (R35, R50). -/
def exchanges : Phase → Nat
  | .pCmd | .pSr | .eCmd | .fW1 | .fW2 | .dTx | .dRx | .wrdiCmd => 1
  | _ => 0

/-- The phases that exchange are those that request the transport (R35). -/
theorem exchanges_eq (s : State) : exchanges s.seq = (spiRequest s).isSome.toNat := by
  unfold spiRequest exchanges
  cases s.seq <;> rfl

/-- The poll (R150). -/
theorem poll_advanced {ready : State → State} {s t : State}
    (hready : ∀ u, ready u = { u with seq := (ready u).seq, result := (ready u).result })
    (h : poll ready s = .next t) : Advanced 0 (exchanges s.seq) s t := by
  rcases poll_next.1 h with ⟨hs, rfl⟩ | ⟨hs, rfl⟩ | ⟨hs, -, rfl⟩ | ⟨hs, -, rfl⟩ | ⟨hs, rfl⟩ | ⟨hs, -, rfl⟩ |
    ⟨hs, -, rfl⟩ <;> rw [hs]
  · exact (advanced_sampleTime s).move rfl
  · exact (advanced_csAssert s).move rfl
  · exact (advanced_byte _ _ s).move rfl
  · exact (advanced_byte _ _ s).move rfl
  · exact (advanced_sampleTime s).move rfl
  · exact (advanced_csDeassert s).move rfl
  · rw [hready]
    exact (advanced_csDeassert s).move rfl

/-- WREN_SEQ() (R170). -/
theorem wrenSeq_advanced {s t : State} (h : wrenSeq s = .next t) : Advanced 0 (exchanges s.seq) s t := by
  rcases wrenSeq_next.1 h with ⟨hs, rfl⟩ | ⟨hs, -, rfl⟩ | ⟨hs, rfl⟩ <;> rw [hs]
  · exact (advanced_csAssert s).move rfl
  · exact (advanced_byte _ _ s).move rfl
  · exact (advanced_csDeassert s).move rfl

/-- CS_ASSERT() and FRAME(cmd, a) (R110). -/
theorem frame_advanced {cmd : Byte} {a : Addr} {after : State → State} {s t : State}
    (hafter : ∀ u, after u = { u with b := (after u).b, seq := (after u).seq })
    (h : frame cmd a after s = .next t) : Advanced 0 (exchanges s.seq) s t := by
  rcases frame_next.1 h with ⟨hs, rfl⟩ | ⟨hs, -, rfl⟩ | ⟨hs, -, rfl⟩ <;> rw [hs]
  · exact (advanced_csAssert s).move rfl
  · exact (advanced_half _ _ s).move rfl
  · rw [hafter]
    exact (advanced_half _ _ s).move rfl

theorem afterPoll_writes (i : Instr) (s : State) :
    afterPoll i s = { s with seq := (afterPoll i s).seq, result := (afterPoll i s).result } := by
  cases i <;> rfl

theorem afterFrame_writes (i : Instr) (s : State) :
    afterFrame i s = { s with b := (afterFrame i s).b, seq := (afterFrame i s).seq } := by
  cases i <;> rfl

/-- A command with a device access polls first (R158). -/
theorem polls_of_accesses {i : Instr} (hi : (writes i || reads i) = true) : polls i = true := by
  cases i with
  | writeByte | readByte | writeArray | readArray => rfl
  | _ => simp [writes, reads] at hi

/-- The phases before a command's data are its own (R51). -/
theorem owns_of_beforeData {i : Instr} {p : Phase} (hi : (writes i || reads i) = true) (hb : beforeData i p) :
    owns i p = true := by
  cases i with
  | writeByte | writeArray => rcases hb with hp | ⟨-, hp⟩ | hp <;> simp [owns, hp]
  | readByte | readArray =>
    rcases hb with hp | ⟨hw, -⟩ | hp
    · simp [owns, hp]
    · cases hw
    · simp [owns, hp]
  | _ => simp [writes, reads] at hi

/-- Before its data an access leaves the array registers and the payload alone (R150, R170, R110). -/
theorem exec_beforeData_advanced {i : Instr} {s t : State} (hi : (writes i || reads i) = true)
    (hb : beforeData i s.seq) (h : exec i s = .next t) : Advanced 0 (exchanges s.seq) s t := by
  rcases hb with hp | ⟨hw, hp⟩ | hp
  · rw [exec_pollPhase (polls_of_accesses hi) hp] at h
    exact poll_advanced (afterPoll_writes i) h
  · rw [exec_wrenPhase hw hp] at h
    exact wrenSeq_advanced h
  · rw [exec_framePhase hi hp] at h
    exact frame_advanced (afterFrame_writes i) h

/-! A run, with what it moves. -/

/-- A run of one step is that step. -/
theorem step_of_run_one {s t : State} (h : Sys2Proof.core.run 1 s = .next t) : step s = .next t := by
  cases hs : step s with
  | next u => rwa [run_succ_of_step 0 hs] at h
  | _ => simp [Host.Core.run, Sys2Proof.core, hs] at h

/-- `n` steps lead from `s` to a state with `P`, `j` data bytes and `k` answers later. -/
def Streams (n j k : Nat) (s : State) (P : State → Prop) : Prop :=
  Reaches n s fun t => P t ∧ Advanced j k s t

theorem Streams.andThen {n j k n' j' k' : Nat} {s : State} {P Q : State → Prop} (h : Streams n j k s P)
    (hn : ∀ t, P t → Advanced j k s t → Streams n' j' k' t Q) : Streams (n' + n) (j' + j) (k' + k) s Q :=
  Reaches.andThen h fun t ⟨hp, ht⟩ => (hn t hp ht).mono fun _ ⟨hq, hu⟩ => ⟨hq, ht.trans hu⟩

theorem Streams.mono {n j k : Nat} {s : State} {P Q : State → Prop} (h : Streams n j k s P)
    (hpq : ∀ t, P t → Q t) : Streams n j k s Q :=
  Reaches.mono h fun t ⟨hp, ht⟩ => ⟨hpq t hp, ht⟩

section
variable {i : Instr} {p q : Phase} {sr st : Byte} {d e f : Device} {sent : List Event} {s t : State}
  {P : State → Prop} {k : Nat}

/-- A step before the data of an access streams nothing, whatever else it does. -/
theorem Underway.streams (h : Underway i p sr d sent s) (hi : (writes i || reads i) = true) (hb : beforeData i p)
    (hn : Reaches 1 s P) (hk : exchanges p = k := by rfl) : Streams 1 0 k s P := by
  obtain ⟨t, hrun, ht⟩ := hn
  obtain ⟨hidle, hbare⟩ := not_idle_not_bare_of_owns (owns_of_beforeData hi hb)
  have hstep : step s = exec i s := step_exec h.rst (h.phase ▸ hidle) (h.phase ▸ hbare) h.latched
  have hexec : exec i s = .next t := hstep.symm.trans (step_of_run_one hrun)
  have hadvanced := exec_beforeData_advanced hi (h.phase.symm ▸ hb) hexec
  rw [h.phase, hk] at hadvanced
  exact ⟨t, hrun, ht, hadvanced⟩

/-- POLL() with one status read, to a device of which the two exchanges are known (R150). -/
theorem Underway.stream_poll (h : Underway i .pT0 sr d sent s) (hi : (writes i || reads i) = true)
    (hcmd : ∀ sent t, Underway i .pCmd sr d.select sent t →
      Reaches 1 t (Underway i .pSr sr e (.xfer8 0x05#8 0#8 :: sent)))
    (hsr : ∀ sent t, Underway i .pSr sr e sent t → Advanced 0 1 s t →
      Reaches 1 t (Underway i .pTime st f (.xfer8 0x00#8 0#8 :: sent)))
    (hw : wipSet st = false) (hafter : ∀ u, afterPoll i u = u.goto q) :
    Streams 6 0 2 s (Underway i q st f.deselect (onePoll ++ sent)) := by
  have hpolls := polls_of_accesses hi
  have hopen : Streams 3 0 1 s (Underway i .pSr sr e (.xfer8 0x05#8 0#8 :: .cs false :: .time 0#32 :: sent)) :=
    (h.streams hi (.inl rfl) (h.step_pT0 hpolls)).andThen fun _ h _ =>
    (h.streams hi (.inl rfl) (h.step_pCsl hpolls)).andThen fun _ h _ =>
    h.streams hi (.inl rfl) (hcmd _ _ h)
  exact hopen.andThen fun _ h hs => (h.streams hi (.inl rfl) (hsr _ _ h hs)).andThen fun _ h _ =>
    (h.streams hi (.inl rfl) (h.step_pTime hpolls hw)).andThen fun _ h _ =>
    h.streams hi (.inl rfl) (h.step_pCsh hpolls hw hafter)

/-! The exchanges of an oracle, which changes with none of them (R25). -/

theorem Underway.exchanged_oracle (h : Underway i p sr d sent s) (ho : d.mode = .oracle) (v m : Byte) :
    Underway i p sr d (.xfer8 v 0#8 :: sent) ((deviceByte v s).2.emit (.xfer8 v m)) := by
  obtain ⟨hrst, hack, hlatched, hphase, hstatus, rfl, rfl⟩ := h
  rw [deviceByte_of_oracle ho]
  exact ⟨by simp [hrst], by simp [hack], by simp [hlatched], by simp [hphase], by simp [hstatus], by simp,
    by simp [Event.sent]⟩

theorem Underway.exchangedWord_oracle (h : Underway i p sr d sent s) (ho : d.mode = .oracle) (w m : Half) :
    Underway i p sr d (.xfer16 w 0#16 :: sent) ((deviceHalf w s).2.emit (.xfer16 w m)) := by
  obtain ⟨hrst, hack, hlatched, hphase, hstatus, rfl, rfl⟩ := h
  rw [deviceHalf_of_oracle ho]
  exact ⟨by simp [hrst], by simp [hack], by simp [hlatched], by simp [hphase], by simp [hstatus], by simp,
    by simp [Event.sent]⟩

theorem Underway.step_pCmd_oracle (h : Underway i .pCmd sr d sent s) (hi : polls i = true) (ho : d.mode = .oracle) :
    Reaches 1 s (Underway i .pSr sr d (.xfer8 0x05#8 0#8 :: sent)) :=
  h.polled hi rfl (poll_next.2 (.inr (.inr (.inl ⟨h.phase, h.ack, rfl⟩)))) ((h.exchanged_oracle ho _ _).move rfl rfl)

theorem Underway.step_pSr_oracle {m : Half} {rest : List Half} (h : Underway i .pSr sr d sent s) (hi : polls i = true)
    (ho : d.mode = .oracle) (hm : s.env.miso = m :: rest) :
    Reaches 1 s (Underway i .pTime (lowByte m) d (.xfer8 0x00#8 0#8 :: sent)) := by
  have hanswer : (deviceByte Config.dummyByte s).1 = lowByte m := by
    rw [deviceByte_of_oracle (h.device ▸ ho), drawMiso_scripted hm]
  have hx := h.exchanged_oracle ho Config.dummyByte (deviceByte Config.dummyByte s).1
  exact h.polled hi rfl (poll_next.2 (.inr (.inr (.inr (.inl ⟨h.phase, h.ack, rfl⟩)))))
    ⟨hx.rst, hx.ack, hx.latched, rfl, hanswer, hx.device, hx.history⟩

theorem Underway.step_eCmd_oracle (h : Underway i .eCmd sr d sent s) (hi : writes i = true) (ho : d.mode = .oracle) :
    Reaches 1 s (Underway i .eCsh sr d (.xfer8 0x06#8 0#8 :: sent)) :=
  h.enabled hi rfl (wrenSeq_next.2 (.inr (.inl ⟨h.phase, h.ack, rfl⟩))) ((h.exchanged_oracle ho _ _).move rfl rfl)

theorem Underway.step_fW1_oracle (h : Underway i .fW1 sr d sent s) (hi : (writes i || reads i) = true)
    (ho : d.mode = .oracle) :
    Reaches 1 s (Underway i .fW2 sr d (.xfer16 (frameW1 (frameCmdOf i) (frameAddrOf i s)) 0#16 :: sent)) :=
  h.framed hi rfl (frame_next.2 (.inr (.inl ⟨h.phase, h.ack, rfl⟩)))
    ((h.exchangedWord_oracle ho _ _).move rfl rfl)

theorem Underway.step_fW2_oracle (h : Underway i .fW2 sr d sent s) (hi : (writes i || reads i) = true)
    (ho : d.mode = .oracle)
    (hP : ∀ u, Underway i .fW2 sr d (.xfer16 (frameW2 (frameAddrOf i s)) 0#16 :: sent) u → P (afterFrame i u)) :
    Reaches 1 s P :=
  h.framed hi rfl (frame_next.2 (.inr (.inr ⟨h.phase, h.ack, rfl⟩))) (hP _ (h.exchangedWord_oracle ho _ _))

/-- POLL() whose first status byte from the oracle has WIP = 0 (R25, R150). -/
theorem Underway.stream_poll_oracle {m n : Half} {rest : List Half} (h : Underway i .pT0 sr d sent s)
    (hi : (writes i || reads i) = true) (ho : d.mode = .oracle) (hm : s.env.miso = m :: n :: rest)
    (hw : n.getLsbD 0 = false) (hafter : ∀ u, afterPoll i u = u.goto q) :
    Streams 6 0 2 s (Underway i q (lowByte n) d (onePoll ++ sent)) := by
  have hpolls := polls_of_accesses hi
  have horacle : s.dev.mode = .oracle := h.device ▸ ho
  have hwip : wipSet (lowByte n) = false := by simpa [wipSet, lowByte] using hw
  rw [← Device.deselect_of_oracle ho]
  refine h.stream_poll (e := d) hi (fun _ _ h => ?_) (fun _ _ h hs => ?_) hwip hafter
  · rw [Device.select_of_oracle ho] at h
    exact h.step_pCmd_oracle hpolls ho
  · obtain ⟨-, hmiso⟩ := hs.answers horacle
    rw [hm] at hmiso
    exact h.step_pSr_oracle hpolls ho hmiso

/-- WREN_SEQ() (R170). -/
theorem Underway.stream_wren_oracle (h : Underway i .eCsl sr d sent s) (hi : writes i = true) (ho : d.mode = .oracle) :
    Streams 3 0 1 s (Underway i .fCsl sr d ([.cs true, .xfer8 0x06#8 0#8, .cs false] ++ sent)) := by
  have haccess : (writes i || reads i) = true := by simp [hi]
  have hopened : Streams 1 0 0 s (Underway i .eCmd sr d (.cs false :: sent)) :=
    (h.streams haccess (.inr (.inl ⟨hi, rfl⟩)) (h.step_eCsl hi)).mono fun _ h => Device.select_of_oracle ho ▸ h
  exact hopened.andThen fun _ h _ =>
    (h.streams haccess (.inr (.inl ⟨hi, rfl⟩)) (h.step_eCmd_oracle hi ho)).andThen fun _ h _ =>
    h.streams haccess (.inr (.inl ⟨hi, rfl⟩)) (Device.deselect_of_oracle ho ▸ h.step_eCsh hi)

/-- CS_ASSERT() and FRAME(), for a command whose address stands in what its frame keeps (R110). -/
theorem Underway.stream_frame_oracle {a : Addr} (h : Underway i .fCsl sr d sent s) (hi : (writes i || reads i) = true)
    (ho : d.mode = .oracle) (ha : ∀ k t, Advanced 0 k s t → frameAddrOf i t = a)
    (hP : ∀ u, Underway i .fW2 sr d
      ([.xfer16 (frameW2 a) 0#16, .xfer16 (frameW1 (frameCmdOf i) a) 0#16, .cs false] ++ sent) u →
      P (afterFrame i u)) : Streams 3 0 2 s P := by
  have hopened : Streams 1 0 0 s (Underway i .fW1 sr d (.cs false :: sent)) :=
    (h.streams hi (.inr (.inr rfl)) (h.step_fCsl hi)).mono fun _ h => Device.select_of_oracle ho ▸ h
  have hfirst : Streams 2 0 1 s (Underway i .fW2 sr d (.xfer16 (frameW1 (frameCmdOf i) a) 0#16 :: .cs false :: sent)) :=
    hopened.andThen fun t h ht => h.streams hi (.inr (.inr rfl)) (ha _ t ht ▸ h.step_fW1_oracle hi ho)
  exact hfirst.andThen fun t h ht => h.streams hi (.inr (.inr rfl))
    (h.step_fW2_oracle hi ho fun u hu => hP u (ha _ t ht ▸ hu))

end

end Sys2Proof.Machine
end

section
/-! SUPPORT. Whole bursts and whole runs of WRITE_ARRAY, to an oracle that is ready (R203 to R207): O38, O39. -/

namespace Sys2Proof.Machine

/-- The events of a burst's data bytes, newest first (R204). -/
def sentData (bytes : List Byte) : List Event :=
  bytes.reverse.flatMap fun b => [.xfer8 b 0#8, .pop b]

theorem sentData_cons (v : Byte) (bytes : List Byte) :
    sentData (v :: bytes) = sentData bytes ++ [.xfer8 v 0#8, .pop v] := by
  simp [sentData]

/-- The events of a burst before its data bytes, newest first: its poll, WREN and its frame at `a` (R204). -/
def burstOpening (a : Addr) : List Event :=
  [.xfer16 (frameW2 a) 0#16, .xfer16 (frameW1 Config.opWrite a) 0#16, .cs false] ++
    ([.cs true, .xfer8 0x06#8 0#8, .cs false] ++ onePoll)

section
variable {a : Addr} {n : Len} {sr : Byte} {d : Device} {sent : List Event} {s t : State} {bytes rest : List Byte}

/-- A burst's poll, WREN and frame, the frame at the cursor (R204). -/
theorem Underway.stream_burstOpening {m st : Half} {more : List Half}
    (h : Underway (.writeArray a n) .pT0 sr d sent s) (ho : d.mode = .oracle) (hm : s.env.miso = m :: st :: more)
    (hw : st.getLsbD 0 = false) :
    Streams 12 0 5 s (Underway (.writeArray a n) .dPop (lowByte st) d (burstOpening s.curAddr ++ sent)) := by
  have henabled : Streams 9 0 3 s (Underway (.writeArray a n) .fCsl (lowByte st) d
      ([.cs true, .xfer8 0x06#8 0#8, .cs false] ++ (onePoll ++ sent))) :=
    (h.stream_poll_oracle rfl ho hm hw fun _ => rfl).andThen fun _ h _ => h.stream_wren_oracle rfl ho
  refine henabled.andThen fun t h ht => h.stream_frame_oracle (a := s.curAddr) rfl ho (fun k u hu => ?_)
    fun _ h => h.move rfl rfl
  simp [frameAddrOf, State.curAddr, hu.cur, ht.cur]

/-- D_POP has taken a payload byte (R200). -/
def popped (v : Byte) (rest : List Byte) (s : State) : State :=
  { { s with env := { s.env with pin := rest } }.emit (.pop v) with b := v, seq := .dTx }

theorem exec_writeArray_popped {v : Byte} (hs : s.seq = .dPop) (hpin : s.env.pin = v :: rest) :
    exec (.writeArray a n) s = .next (popped v rest s) :=
  (exec_writeArray_dPop hs).trans (popByte_next.2 ⟨v, rest, hpin, rfl⟩)

/-- D_POP and D_TX: one byte from the host to the device (R204). -/
theorem Underway.stream_byte {v : Byte} (h : Underway (.writeArray a n) .dPop sr d sent s) (ho : d.mode = .oracle)
    (hpin : s.env.pin = v :: rest) :
    Streams 2 1 1 s fun t =>
      Underway (.writeArray a n) (if t.nb = 0#10 then .fCsh else .dPop) sr d ([.xfer8 v 0#8, .pop v] ++ sent) t := by
  have hpopped : Underway (.writeArray a n) .dTx sr d (.pop v :: sent) (popped v rest s) :=
    ⟨h.rst, h.ack, h.latched, rfl, h.status, h.device, congrArg _ h.history⟩
  refine (h.performs rfl (exec_writeArray_popped h.phase hpin) rfl).andThen fun t ht => ?_
  subst ht
  refine hpopped.performs rfl ((exec_writeArray_dTx rfl).trans (x8_next.2 ⟨h.ack, rfl⟩))
    ⟨(hpopped.exchanged_oracle ho _ _).move rfl rfl, ?_⟩
  have hbyte := advanced_byte v (.xfer8 v 0#8) (popped v rest s)
  exact ⟨rfl, rfl, rfl, rfl, by simp [popped, hpin], by simp [popped], hbyte.answers⟩

/-- The data bytes of a burst, in the order popped (R204). -/
theorem Underway.stream_data
    (h : Underway (.writeArray a n) (if s.nb = 0#10 then .fCsh else .dPop) sr d sent s) (ho : d.mode = .oracle)
    (hnb : s.nb.toNat = bytes.length) (hpin : s.env.pin = bytes ++ rest) :
    Streams (2 * bytes.length) bytes.length bytes.length s
      (Underway (.writeArray a n) .fCsh sr d (sentData bytes ++ sent)) := by
  induction bytes generalizing s sent with
  | nil =>
    have hzero : s.nb = 0#10 := BitVec.eq_of_toNat_eq hnb
    rw [if_pos hzero] at h
    exact ⟨s, rfl, h, advanced_refl s⟩
  | cons v bytes ih =>
    have hmore : s.nb ≠ 0#10 := fun h0 => by simp [h0] at hnb
    rw [if_neg hmore] at h
    rw [sentData_cons, List.append_assoc]
    refine (h.stream_byte ho hpin).andThen fun t h ht => ih h ?_ (by rw [ht.pin, hpin]; rfl)
    rw [List.length_cons] at hnb
    rw [ht.nb]
    bv_omega

/-- F_CSH between two bursts (R203). -/
theorem Underway.stream_closeBurst (h : Underway (.writeArray a n) .fCsh sr d sent s) (ho : d.mode = .oracle) :
    Streams 1 0 0 s fun t => t.csN = true ∧ Underway (.writeArray a n) .aNext sr d (.cs true :: sent) t := by
  have hclosed := h.deasserted
  rw [Device.deselect_of_oracle ho] at hclosed
  exact h.performs rfl (exec_close rfl h.phase) ⟨⟨rfl, hclosed.move rfl rfl⟩, (advanced_csDeassert s).move rfl⟩

/-- A_NEXT has chosen the next burst (R203). -/
def burstChosen (s : State) : State :=
  { s with nb := burstLength s.cur s.rem, seq := .pT0 }

/-- One whole burst, from A_NEXT to A_NEXT (R203, R204). -/
theorem Underway.run_burst {m st : Half} {more : List Half} (h : Underway (.writeArray a n) .aNext sr d sent s)
    (ho : d.mode = .oracle) (hrem : s.rem ≠ 0#24) (hpage : page s.cur.toNat < Config.numPages)
    (hm : s.env.miso = m :: st :: more) (hw : st.getLsbD 0 = false)
    (hlen : bytes.length = (burstLength s.cur s.rem).toNat) (hpin : s.env.pin = bytes ++ rest) :
    Reaches (14 + 2 * bytes.length) s fun t =>
      (t.csN = true ∧ Underway (.writeArray a n) .aNext (lowByte st) d
        (.cs true :: (sentData bytes ++ (burstOpening s.curAddr ++ sent))) t) ∧
      Advanced bytes.length (bytes.length + 5) (burstChosen s) t := by
  obtain ⟨hpos, -⟩ := burstLength_spec (cur := s.cur) hrem
  have hmore : burstLength s.cur s.rem ≠ 0#10 := fun h0 => by simp [h0] at hpos
  have hchosen : Underway (.writeArray a n) .pT0 sr d sent (burstChosen s) := h.move rfl rfl
  have hsent : Streams (2 * bytes.length + 12) bytes.length (bytes.length + 5) (burstChosen s)
      (Underway (.writeArray a n) .fCsh (lowByte st) d (sentData bytes ++ (burstOpening s.curAddr ++ sent))) := by
    refine (hchosen.stream_burstOpening ho hm hw).andThen fun t h ht => ?_
    have hnb : t.nb = burstLength s.cur s.rem := by rw [ht.nb]; exact BitVec.sub_zero _
    exact Underway.stream_data (by rwa [hnb, if_neg hmore]) ho (by rw [hnb, hlen]) (ht.pin.trans hpin)
  have hclosed := hsent.andThen fun _ h _ => h.stream_closeBurst ho
  have hstep : step s = .next (burstChosen s) :=
    (step_aNext h.rst h.latched h.phase).trans (congrArg _ (pageAdvance_burst hrem hpage))
  have hsteps : 14 + 2 * bytes.length = 1 + (2 * bytes.length + 12) + 1 := by omega
  rw [Nat.zero_add, Nat.zero_add] at hclosed
  rw [hsteps]
  exact (Reaches.of_step hstep rfl).andThen fun t ht => ht ▸ hclosed

end

/-- The burst's frame carries the cursor's low 24 bits (R110, R204). -/
theorem frameW1_curAddr (cmd : Byte) (s : State) : frameW1 cmd s.curAddr = cmd ++ s.cur.extractLsb' 16 8 := by
  apply BitVec.eq_of_toNat_eq
  simp only [frameW1, State.curAddr, toNat_append_eq, toNat_extract]
  omega

theorem frameW2_curAddr (s : State) : frameW2 s.curAddr = s.cur.extractLsb' 0 16 := by
  apply BitVec.eq_of_toNat_eq
  simp only [frameW2, State.curAddr, toNat_extract]
  omega

/-- A burst ends at a page boundary, or with the command's last byte (R204). -/
theorem burst_ends {s t : State} {j k : Nat} (hlen : j = (burstLength s.cur s.rem).toNat)
    (ht : Advanced j k (burstChosen s) t) :
    t.cur.toNat % 512 = 0 ∨ t.rem = 0#24 := by
  rw [burstLength_toNat] at hlen
  rw [ht.rem, ht.cur]
  simp only [burstChosen]
  rcases Nat.le_total (512 - s.cur.toNat % 512) s.rem.toNat with hle | hle
  · left
    rw [Nat.min_eq_left hle] at hlen
    rw [BitVec.toNat_add, BitVec.toNat_ofNat]
    omega
  · right
    rw [hlen, Nat.min_eq_right hle]
    simp

/-- Settles O38: A_NEXT chooses the burst, and the burst runs. -/
theorem oneBurstPerPage : Obligations.OneBurstPerPage := by
  intro s a n bytes rest m st more hr hd hs hrem hpage hack ho hm hw hlen hpin
  have h : Underway (.writeArray a n) .aNext s.sr s.dev (s.history.map Event.sent) s :=
    ⟨hr, hack, hd, hs, rfl, rfl, rfl⟩
  rw [← burstLength_toNat] at hlen
  obtain ⟨t, hrun, ⟨hcs, hend⟩, hburst⟩ := h.run_burst ho hrem hpage hm hw hlen hpin
  refine ⟨t, hrun, hend.phase, hcs, hburst.cur, hburst.rem, ?_, hburst.cnt, ?_, ?_, ?_⟩
  · rw [hburst.nb, hlen]
    simp [burstChosen]
  · rw [hburst.pin]
    simp [burstChosen, hpin]
  · exact burst_ends hlen hburst
  · rw [hend.history, burstOpening, frameW1_curAddr, frameW2_curAddr, List.append_assoc (List.flatMap _ _)]
    rfl

/-- The host's payload and the oracle's answers are enough for the rest of a WRITE_ARRAY inside the device, six answers
a byte at most (R204), and the device is always ready. -/
structure Supplied (s : State) : Prop where
  inside : s.cur.toNat + s.rem.toNat ≤ Config.capacity
  payload : s.rem.toNat ≤ s.env.pin.length
  answers : 6 * s.rem.toNat ≤ s.env.miso.length
  ready : ∀ m ∈ s.env.miso, m.getLsbD 0 = false

/-- `t` is the end of a WRITE_ARRAY that had come to A_NEXT in `s`, with every byte sent (R200, R207). -/
structure WroteAll (s t : State) : Prop where
  idle : t.seq = .idle
  valid : t.respValid = true
  result : respResult t.resp = 0x0#4
  done : respBytesDone t.resp = s.cnt + s.rem
  pin : t.env.pin = s.env.pin.drop s.rem.toNat
  cur : t.cur = s.cur + BitVec.ofNat 25 s.rem.toNat

section
variable {a : Addr} {n : Len} {sr : Byte} {d : Device} {sent : List Event} {s t u : State} {j : Nat}

/-- A burst leaves enough for the rest. -/
theorem Supplied.afterBurst (h : Supplied s) (ho : s.dev.mode = .oracle) (hpos : 1 ≤ j) (hj : j ≤ s.rem.toNat)
    (ht : Advanced j (j + 5) (burstChosen s) t) : Supplied t ∧ t.rem.toNat = s.rem.toNat - j := by
  obtain ⟨hinside, hpayload, hanswers, hready⟩ := h
  obtain ⟨-, hmiso⟩ := ht.answers ho
  have hrem : t.rem.toNat = s.rem.toNat - j := by
    have := ht.rem
    simp only [burstChosen] at this
    bv_omega
  have hcur : t.cur.toNat = s.cur.toNat + j := by
    have := ht.cur
    simp only [burstChosen, Config.capacity] at this hinside
    bv_omega
  refine ⟨⟨by omega, ?_, ?_, fun m hm => ?_⟩, hrem⟩
  · rw [ht.pin, List.length_drop]
    exact (by omega : t.rem.toNat ≤ s.env.pin.length - j)
  · rw [hmiso, List.length_drop]
    exact (by omega : 6 * t.rem.toNat ≤ s.env.miso.length - (j + 5))
  · rw [hmiso] at hm
    exact hready m (List.mem_of_mem_drop hm)

/-- What ends a command after a burst ends it before the burst. -/
theorem WroteAll.beforeBurst (h : WroteAll t u) (hj : j ≤ s.rem.toNat) (hrem : t.rem.toNat = s.rem.toNat - j)
    (ht : Advanced j (j + 5) (burstChosen s) t) : WroteAll s u where
  idle := h.idle
  valid := h.valid
  result := h.result
  done := by
    rw [h.done, ht.cnt, ht.rem]
    simp [burstChosen]
  pin := by
    rw [h.pin, ht.pin, List.drop_drop, hrem, Nat.add_sub_of_le hj]
    rfl
  cur := by
    rw [h.cur, ht.cur, add_assoc, ← BitVec.ofNat_add, hrem, Nat.add_sub_of_le hj]
    rfl

/-- A_NEXT with nothing left, and RESP (R203, R241). -/
theorem Underway.run_lastPageAdvance (h : Underway (.writeArray a n) .aNext sr d sent s) (hrem : s.rem = 0#24) :
    Reaches 2 s (WroteAll s) := by
  have hdone : step s = .next (finish s) :=
    (step_aNext h.rst h.latched h.phase).trans (congrArg _ (pageAdvance_done hrem))
  obtain ⟨hresult, hbytes, -⟩ := respWord_fields s.sr s.cnt (rdataOrZero .ok s.rdata) .ok
  refine (Reaches.of_step hdone rfl).andThen fun t ht => ?_
  subst ht
  exact .of_step (step_resp (by exact h.rst) rfl) ⟨rfl, rfl, hresult, hbytes.trans (by simp [hrem]), by simp [hrem],
    by simp [hrem]⟩

/-- The bursts of a WRITE_ARRAY, one after the other (R201, R203, R205). -/
theorem Underway.run_bursts (h : Underway (.writeArray a n) .aNext sr d sent s) (ho : d.mode = .oracle)
    (hs : Supplied s) : ∃ k, Reaches k s (WroteAll s) := by
  induction hr : s.rem.toNat using Nat.strong_induction_on generalizing s sr sent with
  | _ r ih =>
  have ⟨hinside, hpayload, hanswers, hready⟩ := hs
  by_cases hrem : s.rem = 0#24
  · exact ⟨2, h.run_lastPageAdvance hrem⟩
  obtain ⟨hpos, hle, -⟩ := burstLength_spec (cur := s.cur) hrem
  have hpage : page s.cur.toNat < Config.numPages := by
    simp only [page, Config.pageSize, Config.numPages, Config.capacity] at hinside ⊢
    omega
  obtain ⟨m, st, more, hmiso⟩ : ∃ m st more, s.env.miso = m :: st :: more := by
    match hm : s.env.miso with
    | m :: st :: more => exact ⟨m, st, more, rfl⟩
    | [_] | [] => simp only [hm, List.length_cons, List.length_nil] at hanswers; omega
  have hlen : (s.env.pin.take (burstLength s.cur s.rem).toNat).length = (burstLength s.cur s.rem).toNat :=
    List.length_take_of_le (hle.trans hpayload)
  obtain ⟨t, hrun, ⟨-, hnext⟩, hburst⟩ := h.run_burst ho hrem hpage hmiso (hready st (by simp [hmiso])) hlen
    (List.take_append_drop _ _).symm
  rw [hlen] at hburst
  obtain ⟨hst, hleft⟩ := hs.afterBurst (h.device ▸ ho) hpos hle hburst
  obtain ⟨k, hend⟩ := ih _ (by omega) hnext hst rfl
  exact ⟨_, Reaches.andThen ⟨t, hrun, rfl⟩ fun u hu => hu ▸ hend.mono fun v hv => hv.beforeBurst hle hleft hburst⟩

end

/-- Settles O39: ACCEPT, then burst after burst. -/
theorem writeArrayRunsToOk : Obligations.WriteArrayRunsToOk := by
  intro s a n hr hs hinit hcnt hw hack ho hready hanswers hpayload hinside
  have hd := decode_writeArray_of_cw hw
  have haddr : (a.setWidth 25).toNat = a.toNat := by
    rw [BitVec.toNat_setWidth]
    omega
  have hstep : step s = .next { s with cur := a.setWidth 25, rem := n, seq := .aNext } :=
    step_dispatch hr hd rfl hs hinit (by simp [instrOutOfBounds])
  have h : Underway (.writeArray a n) .aNext s.sr s.dev (s.history.map Event.sent)
      { s with cur := a.setWidth 25, rem := n, seq := .aNext } := ⟨hr, hack, hd, rfl, rfl, rfl, rfl⟩
  obtain ⟨k, t, hrun, hend⟩ := h.run_bursts ho ⟨by simpa only [haddr] using hinside, hpayload, hanswers, hready⟩
  refine ⟨k + 1, t, (run_succ_of_step k hstep).trans hrun, hend.idle, hend.valid, hend.result, ?_, hend.pin, ?_⟩
  · rw [hend.done]
    simp [hcnt]
  · have := hend.cur
    bv_omega

end Sys2Proof.Machine
end

section
/-! SUPPORT. Whole runs of READ_ARRAY, to an oracle with LEN = 0 and to the reference device (R210, R212): O41, O42. -/

namespace Sys2Proof.Machine

/-- The events of bytes received and handed over, newest first (R210). -/
def handedOver (bytes : List Byte) : List Event :=
  bytes.reverse.flatMap fun v => [.push v, .xfer8 0x00#8 0#8]

theorem handedOver_cons (v : Byte) (bytes : List Byte) :
    handedOver (v :: bytes) = handedOver bytes ++ [.push v, .xfer8 0x00#8 0#8] := by
  simp [handedOver]

/-- The events of READ_ARRAY's poll and of its frame at `a`, newest first (R210). -/
def readOpening (a : Addr) : List Event :=
  [.xfer16 (frameW2 a) 0#16, .xfer16 (frameW1 Config.opRead a) 0#16, .cs false] ++ onePoll

/-- What a Push hands over is no answer of the environment's. -/
@[simp] theorem pushedByte_sent (e : Event) : pushedByte e.sent = pushedByte e := by
  cases e <;> rfl

/-- The bytes pushed show in the history without the answers. -/
theorem pushed_map_sent (h : List Event) : (h.map Event.sent).filterMap pushedByte = h.filterMap pushedByte := by
  rw [List.filterMap_map]
  exact congrArg (h.filterMap ·) (funext pushedByte_sent)

theorem pushed_handedOver (bytes : List Byte) : (handedOver bytes).filterMap pushedByte = bytes.reverse := by
  induction bytes with
  | nil => rfl
  | cons v bytes ih => rw [handedOver_cons, List.filterMap_append, ih, List.reverse_cons]; rfl

/-- The reference device in a READ from `a` of which it has answered `j` bytes (R89). -/
def Device.readingAt (d : Device) (a : Addr) (j : Nat) : Device :=
  { d.afterAddress Config.opRead a with pos := 4 + j }

/-- It answers the next byte of its array (R89). -/
theorem Device.receive_readingAt {d : Device} {a : Addr} {j : Nat} (hw : d.wip = false)
    (hj : a.toNat + j < Config.capacity) (v : Byte) :
    (d.readingAt a j).receive v = (.byte (d.mem.read (a.toNat + j)), d.readingAt a (j + 1)) := by
  have hposition : (d.readingAt a j).pos - 4 = j := Nat.add_sub_cancel_left 4 j
  have hanswer : (d.readingAt a j).readAnswer j = .byte (d.mem.read (a.toNat + j)) := by
    rw [Device.readAnswer, if_neg (by simp [Device.readingAt, Device.afterAddress, hw]), if_pos (by exact hj)]
    rfl
  rw [Device.receive_readData rfl (Nat.le_add_right 4 j), hposition, hanswer]
  rfl

section
variable {i : Instr} {a : Addr} {n : Len} {sr : Byte} {d : Device} {sent : List Event} {s t : State} {j m : Nat}

/-- READ_ARRAY between two of its data bytes: D_RX while bytes are owed, else F_CSH (R51, R212). -/
def Reading (a : Addr) (n : Len) (sr : Byte) (d : Device) (sent : List Event) (s : State) : Prop :=
  Underway (.readArray a n) (if s.rem = 0#24 then .fCsh else .dRx) sr d sent s

theorem Reading.of_frame {p : Phase} (h : Underway (.readArray a n) p sr d sent s) :
    Reading a n sr d sent (readOrClose s) :=
  h.move rfl rfl

/-- D_RX has received a byte (R210). -/
def received (s : State) : State :=
  { (deviceByte Config.dummyByte s).2.emit (.xfer8 Config.dummyByte (deviceByte Config.dummyByte s).1) with
    b := (deviceByte Config.dummyByte s).1, seq := .dPush }

theorem exec_readArray_received (hs : s.seq = .dRx) (ha : s.env.spiAck = true) :
    exec (.readArray a n) s = .next (received s) :=
  (exec_readArray_dRx hs).trans (x8_next.2 ⟨ha, rfl⟩)

/-- D_RX and D_PUSH: one byte from the device to the host (R210). -/
theorem Reading.run_byte (h : Reading a n sr (d.readingAt a j) sent s) (hm : d.mode = .reference) (hw : d.wip = false)
    (hj : a.toNat + j < Config.capacity) (hrem : s.rem ≠ 0#24) (hready : s.env.poutReady = true) :
    Reaches 2 s fun t => (t.rem = s.rem - 1#24 ∧ t.cnt = s.cnt + 1#24 ∧ t.env.poutReady = true) ∧
      Reading a n sr (d.readingAt a (j + 1))
        ([.push (d.mem.read (a.toNat + j)), .xfer8 0x00#8 0#8] ++ sent) t := by
  rw [Reading, if_neg hrem] at h
  obtain ⟨hbyte, hx⟩ := h.exchanged (by exact hm) rfl (Device.receive_readingAt hw hj Config.dummyByte)
  have hheld : Underway (.readArray a n) .dPush sr (d.readingAt a (j + 1)) (.xfer8 0x00#8 0#8 :: sent) (received s) :=
    hx.move rfl rfl
  have hb : (received s).b = d.mem.read (a.toNat + j) := hbyte
  have hhost : (received s).env.poutReady = true := by simpa [received] using hready
  refine (h.performs rfl (exec_readArray_received h.phase h.ack) rfl).andThen fun t ht => ?_
  subst ht
  refine hheld.performs rfl ((exec_readArray_dPush rfl).trans (pushByte_next.2 ⟨hhost, rfl⟩)) ?_
  rw [hb]
  exact ⟨⟨by simp [received], by simp [received], hhost⟩, hheld.rst, hheld.ack, hheld.latched, by simp [received],
    hheld.status, hheld.device, congrArg _ hheld.history⟩

/-- The data bytes of a READ_ARRAY inside the device (R89, R210). -/
theorem Reading.run_data (h : Reading a n sr (d.readingAt a j) sent s) (hm : d.mode = .reference) (hw : d.wip = false)
    (hrem : s.rem.toNat = m) (hcap : a.toNat + j + m ≤ Config.capacity) (hready : s.env.poutReady = true) :
    Reaches (2 * m) s fun t => t.cnt = s.cnt + BitVec.ofNat 24 m ∧
      Underway (.readArray a n) .fCsh sr (d.readingAt a (j + m))
        (handedOver (d.mem.readBytes (a.toNat + j) m) ++ sent) t := by
  induction m generalizing s j sent with
  | zero =>
    have hzero : s.rem = 0#24 := BitVec.eq_of_toNat_eq hrem
    rw [Reading, if_pos hzero] at h
    exact ⟨s, rfl, (BitVec.add_zero _).symm, h⟩
  | succ m ih =>
    have hmore : s.rem ≠ 0#24 := fun h0 => by simp [h0] at hrem
    rw [Memory.readBytes, handedOver_cons, List.append_assoc]
    refine (h.run_byte hm hw (by omega) hmore hready).andThen fun t ⟨⟨htrem, htcnt, htready⟩, ht⟩ => ?_
    refine (ih ht (by rw [htrem]; bv_omega) (by omega) htready).mono fun u ⟨hcnt, hu⟩ => ⟨?_, ?_⟩
    · rw [hcnt, htcnt, add_assoc, Nat.add_comm m, BitVec.ofNat_add]
    · rwa [Nat.add_right_comm] at hu

/-- POLL() of a reference device with no write cycle in flight, with what it keeps (R87, R150). -/
theorem Underway.stream_poll_reference {q : Phase} (h : Underway i .pT0 sr d sent s)
    (hi : (writes i || reads i) = true) (hm : d.mode = .reference) (hw : d.wip = false)
    (hafter : ∀ u, afterPoll i u = u.goto q) :
    Streams 6 0 2 s (Underway i q d.statusByte d.closed (onePoll ++ sent)) := by
  have hclose : ({ d.afterInstruction Config.opRdsr with pos := 2 } : Device).deselect = d.closed :=
    Device.deselect_read (by exact hm) rfl (.inl rfl)
  rw [← hclose]
  exact h.stream_poll hi (fun _ _ h => h.step_pCmd (polls_of_accesses hi) hm)
    (fun _ _ h _ => h.step_pSr (polls_of_accesses hi) hm hw) (by rw [wipSet_statusByte, hw]) hafter

/-- CS_ASSERT() and the frame of READ_ARRAY to the reference device, with what they keep (R86, R110). -/
theorem Underway.stream_readArrayFrame (h : Underway (.readArray a n) .fCsl sr d sent s) (hm : d.mode = .reference) :
    Streams 3 0 2 s (Reading a n sr (d.readingAt a 0)
      ([.xfer16 (frameW2 a) 0#16, .xfer16 (frameW1 Config.opRead a) 0#16, .cs false] ++ sent)) :=
  (h.streams rfl (.inr (.inr rfl)) (h.step_fCsl rfl)).andThen fun _ h _ =>
  (h.streams rfl (.inr (.inr rfl)) (h.step_fW1 rfl rfl hm)).andThen fun _ h _ =>
  h.streams rfl (.inr (.inr rfl)) (h.step_fW2 rfl rfl hm fun _ h => Reading.of_frame h)

/-- From the frame's end to the response (R210, R241). -/
theorem Reading.run_toEnd (h : Reading a n sr (d.readingAt a 0) sent s) (hm : d.mode = .reference) (hw : d.wip = false)
    (hrem : s.rem = n) (hcnt : s.cnt = 0#24) (hcap : a.toNat + n.toNat ≤ Config.capacity)
    (hready : s.env.poutReady = true) :
    Reaches (2 + 2 * n.toNat) s (EndedOk sr n d.closed
      (.cs true :: (handedOver (d.mem.readBytes a.toNat n.toNat) ++ sent))) := by
  have hclose (j : Nat) : (d.readingAt a j).deselect = d.closed := Device.deselect_read (by exact hm) rfl (.inr rfl)
  refine (h.run_data hm hw (by rw [hrem]) hcap hready).andThen fun t ⟨hdone, ht⟩ =>
    (ht.run_close rfl fun _ => rfl).mono fun u ⟨_, hu⟩ => ?_
  rw [hclose, hdone, hcnt] at hu
  simpa using hu

/-- A whole READ_ARRAY inside a reference device with no write cycle in flight (R210). -/
theorem Underway.run_readArray (h : Underway (.readArray a n) .accept sr d sent s) (hinit : s.init = true)
    (hcnt : s.cnt = 0#24) (hready : s.env.poutReady = true) (hm : d.mode = .reference) (hw : d.wip = false)
    (ha : a.toNat < Config.capacity) (hcap : a.toNat + n.toNat ≤ Config.capacity) :
    Reaches (12 + 2 * n.toNat) s (EndedOk d.statusByte n d.closed
      (.cs true :: (handedOver (d.mem.readBytes a.toNat n.toNat) ++
        (readOpening a ++ sent)))) := by
  have hbounds : ¬instrOutOfBounds (.readArray a n) = true := fun hout => by
    rcases readArrayOutOfBounds_iff.1 hout with hout | hout <;> omega
  have hstart : step s = .next { s with rem := n, seq := .pT0 } :=
    step_dispatch h.rst h.latched rfl h.phase hinit fun _ => hbounds
  have hpolls : Underway (.readArray a n) .pT0 sr d sent { s with rem := n, seq := .pT0 } := h.move rfl rfl
  have hframed := (hpolls.stream_poll_reference rfl hm hw fun _ => rfl).andThen fun _ h _ =>
    h.stream_readArrayFrame (by exact hm)
  have hend := Reaches.andThen hframed fun t ⟨h, ht⟩ => h.run_toEnd (by exact hm) (by exact hw)
    (ht.rem.trans (BitVec.sub_zero n)) ((ht.cnt.trans (BitVec.add_zero _)).trans hcnt) hcap (ht.ready.trans hready)
  have hsteps : 12 + 2 * n.toNat = 2 + 2 * n.toNat + (3 + 6) + 1 := by omega
  rw [hsteps]
  exact (Reaches.of_step hstart rfl).andThen fun _ h => h ▸ hend

/-- F_CSH and RESP take no payload byte. -/
theorem Underway.run_close_pin (h : Underway i .fCsh sr d sent s) (hi : (writes i || reads i) = true)
    (hafter : ∀ u, afterClose i u = finish u) (hrun : Sys2Proof.core.run 2 s = .next t) : t.env.pin = s.env.pin := by
  have hstep : step s = .next (finish (csDeassert s)) :=
    (step_exec h.rst (by simp [h.phase]) (by simp [h.phase, isBare]) h.latched).trans
      ((exec_close hi h.phase).trans (congrArg _ (hafter _)))
  rw [run_succ_of_step 1 hstep, run_succ_of_step 0 (step_resp (by exact h.rst) rfl)] at hrun
  rw [next_eq_iff.1 hrun]
  rfl

/-- From the end of a frame without data to the response (R212, R241). -/
theorem Reading.run_emptyToEnd (h : Reading a n sr d sent s) (ho : d.mode = .oracle) (hrem : s.rem = 0#24)
    (hcnt : s.cnt = 0#24) :
    Reaches 2 s fun t => t.env.pin = s.env.pin ∧ EndedOk sr 0#24 d (.cs true :: sent) t := by
  rw [Reading, if_pos hrem] at h
  obtain ⟨t, hrun, -, ht⟩ := h.run_close rfl fun _ => rfl
  rw [Device.deselect_of_oracle ho, hcnt] at ht
  exact ⟨t, hrun, h.run_close_pin rfl (fun _ => rfl) hrun, ht⟩

/-- A whole READ_ARRAY with LEN = 0, to an oracle whose first status byte has WIP = 0 (R212). -/
theorem Underway.run_emptyReadArray {m st : Half} {more : List Half}
    (h : Underway (.readArray a 0#24) .accept sr d sent s) (hinit : s.init = true) (hcnt : s.cnt = 0#24)
    (hbounds : s.params.boundsCheck = true → a.toNat < Config.capacity) (ho : d.mode = .oracle)
    (hm : s.env.miso = m :: st :: more) (hw : st.getLsbD 0 = false) :
    Reaches 12 s fun t => t.env.pin = s.env.pin ∧ EndedOk (lowByte st) 0#24 d
      (.cs true :: (readOpening a ++ sent)) t := by
  have hpass : s.params.boundsCheck = true → ¬instrOutOfBounds (.readArray a 0#24) = true := fun hcheck hout => by
    have hin := hbounds hcheck
    rcases readArrayOutOfBounds_iff.1 hout with hout | hout
    · omega
    · exact absurd hin (Nat.not_lt.2 hout.le)
  have hstart : step s = .next { s with rem := 0#24, seq := .pT0 } :=
    step_dispatch h.rst h.latched rfl h.phase hinit hpass
  have hpolls : Underway (.readArray a 0#24) .pT0 sr d sent { s with rem := 0#24, seq := .pT0 } := h.move rfl rfl
  have hframed := (hpolls.stream_poll_oracle rfl ho hm hw fun _ => rfl).andThen fun _ h _ =>
    h.stream_frame_oracle (a := a) rfl ho (fun _ _ _ => rfl) fun _ h => Reading.of_frame h
  have hend := Reaches.andThen hframed fun t ⟨h, ht⟩ =>
    (h.run_emptyToEnd ho (ht.rem.trans (BitVec.sub_zero _)) ((ht.cnt.trans (BitVec.add_zero _)).trans hcnt)).mono
      fun u ⟨hpin, hu⟩ => And.intro (hpin.trans ht.pin) hu
  exact (Reaches.of_step hstart rfl).andThen fun _ h => h ▸ hend

end

/-- Settles O41: ACCEPT, the poll, the frame and the response. -/
theorem emptyReadArraySendsTheFrame : Obligations.EmptyReadArraySendsTheFrame := by
  intro a s m st more hr hs hinit hcnt hcw hbounds hack ho hm hw
  have h : Underway (.readArray a 0#24) .accept s.sr s.dev (s.history.map Event.sent) s :=
    ⟨hr, hack, decode_readArray_of_cw hcw, hs, rfl, rfl, rfl⟩
  obtain ⟨t, hrun, hpin, hend⟩ := h.run_emptyReadArray hinit hcnt hbounds ho hm hw
  obtain ⟨hresult, hdone, -⟩ := hend.fields
  exact ⟨t, hrun, hend.idle, hend.csHigh, hend.valid, hresult, hdone, hpin, hend.history⟩

/-- Settles O42: ACCEPT, the poll, the frame, the bytes and the response. -/
theorem readArrayRunPushesTheDeviceBytes : Obligations.ReadArrayRunPushesTheDeviceBytes := by
  intro s a n hr hs hinit hcnt hcw hack hready hm hw ha hcap
  have h : Underway (.readArray a n) .accept s.sr s.dev (s.history.map Event.sent) s :=
    ⟨hr, hack, decode_readArray_of_cw hcw, hs, rfl, rfl, rfl⟩
  obtain ⟨t, hrun, hend⟩ := h.run_readArray hinit hcnt hready hm hw ha hcap
  obtain ⟨hresult, hdone, -⟩ := hend.fields
  refine ⟨t, hrun, hend.idle, hend.csHigh, hend.valid, hresult, hdone, hend.device, ?_⟩
  calc t.history.filterMap pushedByte
      = (handedOver (s.dev.mem.readBytes a.toNat n.toNat) ++
          (readOpening a ++ s.history.map Event.sent)).filterMap pushedByte := by
        rw [← pushed_map_sent, hend.history]
        rfl
    _ = (s.dev.mem.readBytes a.toNat n.toNat).reverse ++ (s.history.map Event.sent).filterMap pushedByte := by
        rw [List.filterMap_append, pushed_handedOver]
        rfl
    _ = _ := by rw [pushed_map_sent]

end Sys2Proof.Machine
end

section
/-! SUPPORT. The checks of ACCEPT in the order of R235, the bounds check and the dispatch said by the views of the
latched word (R43, R51, R236): O11. -/

namespace Sys2Proof.Machine

/-- ACCEPT of a word that is no command is REJ_ILLEGAL (R127, R235). -/
theorem step_accept_illegal {s : State} (hr : s.env.rst = 0) (hs : s.seq = .accept)
    (hlegal : hostWordLegal s.cw = false) : step s = .next (raise .rejIllegal s) := by
  obtain ⟨e, hd⟩ := decode_error_of_not_legal hlegal
  rw [step_illegal hr (by simp [hs]) (by simp [hs, isBare]) hd]
  exact illegalWord_next.2 (.inl ⟨hs, rfl⟩)

section
variable {s : State} {i : Instr}

/-- A legal command with OP 1 is BEGIN with the operands of format B (R120, R123). -/
theorem eq_begin_of_op (hd : decode (.host s.cw) = .ok i) (ho : s.op = 0x1#4) :
    i = .begin (fieldCsid s.cw) (fieldClkhz s.cw) := by
  rw [State.op] at ho
  rcases decode_host_cases hd with ⟨-, h⟩ | ⟨h, -⟩ | ⟨h, -⟩ | ⟨h, -⟩ | ⟨h, -⟩ | ⟨h, -⟩
  · exact h
  all_goals simp [h] at ho

/-- A legal command with another OP polls (R125, R158). -/
theorem polls_of_op_ne (hd : decode (.host s.cw) = .ok i) (ho : s.op ≠ 0x1#4) : polls i = true := by
  rcases decode_host_cases hd with ⟨h, -⟩ | ⟨-, rfl⟩ | ⟨-, rfl⟩ | ⟨-, rfl⟩ | ⟨-, rfl⟩ | ⟨-, rfl⟩
  · exact absurd h ho
  all_goals rfl

/-- ACCEPT of BEGIN: zero clock, then repeated BEGIN, then its first phase (R51, R142, R143, R235). -/
theorem step_accept_begin (hr : s.env.rst = 0) (hs : s.seq = .accept) (hd : decode (.host s.cw) = .ok i)
    (ho : s.op = 0x1#4) :
    step s = .next
      (if fieldClkhz s.cw = 0#32 then raise .rejIllegal s
      else if s.init = true then raise .rejAlreadyInit s
      else s.goto .bCscfg) := by
  obtain rfl := eq_begin_of_op hd ho
  split_ifs with hz hi
  · rw [hz] at hd
    exact step_of_exec_begin hr hd (exec_begin_zeroClock hs)
  · exact step_of_exec_begin hr hd (exec_begin_again hs hz hi)
  · exact step_of_exec_begin hr hd (exec_begin_start hs hz (Bool.eq_false_of_not_eq_true hi))

/-- ACCEPT of a polling command: missing BEGIN, then bounds, then its dispatch (R51, R235). -/
theorem step_accept_polling (hr : s.env.rst = 0) (hs : s.seq = .accept) (hd : decode (.host s.cw) = .ok i)
    (hi : polls i = true) :
    step s = .next
      (if s.init = false then raise .rejNotInit s
      else if s.params.boundsCheck = true ∧ instrOutOfBounds i = true then raise .outOfRange s
      else dispatchOf i s) := by
  rw [step_exec hr (by simp [hs]) (by simp [hs, isBare]) hd, exec_accept hs hi, checkAndDispatch]
  simp only [Bool.and_eq_true, apply_ite Host.Outcome.next]

/-- R236 by the views of the latched word (R43). -/
theorem instrOutOfBounds_iff_views (hd : decode (.host s.cw) = .ok i) :
    instrOutOfBounds i = true ↔
      (s.op = 0x2#4 ∨ s.op = 0x3#4) ∧ Config.capacity ≤ s.addr.toNat ∨
      s.op = 0x5#4 ∧ (Config.capacity ≤ s.addr.toNat ∨ Config.capacity < s.addr.toNat + s.arg.toNat) := by
  rw [State.op, State.addr, State.arg]
  rcases decode_host_cases hd with ⟨ho, rfl⟩ | ⟨ho, rfl⟩ | ⟨ho, rfl⟩ | ⟨ho, rfl⟩ | ⟨ho, rfl⟩ | ⟨ho, rfl⟩ <;>
    simp [instrOutOfBounds, byteOutOfBounds_iff, readArrayOutOfBounds_iff, ho]

/-- What a polling command writes at its start, by the views of the latched word (R43, R51, R202, R210). -/
theorem dispatchOf_eq_views (hd : decode (.host s.cw) = .ok i) :
    dispatchOf i s =
      if s.op = 0x4#4 then { s with cur := s.addr.setWidth 25, rem := s.arg, seq := .aNext }
      else if s.op = 0x5#4 then { s with rem := s.arg, seq := .pT0 }
      else { s with seq := .pT0 } := by
  rw [State.op, State.addr, State.arg]
  rcases decode_host_cases hd with ⟨ho, rfl⟩ | ⟨ho, rfl⟩ | ⟨ho, rfl⟩ | ⟨ho, rfl⟩ | ⟨ho, rfl⟩ | ⟨ho, rfl⟩ <;>
    simp only [ho] <;> rfl

end

/-- Settles O11: an illegal word, then BEGIN, whose checks are its own, then the polling commands. -/
theorem acceptChecksInOrder : Obligations.AcceptChecksInOrder := by
  intro s hr hs
  by_cases hlegal : hostWordLegal s.cw = false
  · rw [if_pos hlegal]
    exact step_accept_illegal hr hs hlegal
  rw [if_neg hlegal]
  obtain ⟨i, hd⟩ := (legalHostWordsAreTheTablesRows s.cw).2 (Bool.eq_true_of_not_eq_false hlegal)
  by_cases ho : s.op = 0x1#4
  · simp only [ho, BitVec.reduceEq, ne_eq, not_true_eq_false, true_and, false_and, or_self, and_false,
      if_true, if_false]
    exact step_accept_begin hr hs hd ho
  · rw [step_accept_polling hr hs hd (polls_of_op_ne hd ho)]
    simp [ho, raise, conclude, instrOutOfBounds_iff_views hd, dispatchOf_eq_views hd]

end Sys2Proof.Machine
end
